-- ==== Sys2Proof/Word.lean ====
section
/-! DEFINITION. The word types of the DX-32's lines and memories: bytes, and 16-bit fields sent low byte first (3.3). -/

namespace Sys2Proof

/-- One byte of a frame, of the configuration image or of a service transfer. -/
abbrev Byte := BitVec 8

/-- One two-byte field of a frame or of the configuration image. -/
abbrev Word := BitVec 16

end Sys2Proof
end

