-- ==== Sys2Proof/Syntax.lean ====
section
/-! DEFINITION. The commands of the DX-32: one constructor of `Instr` for each row of spec/opcode_table.json, and the
fields of the frames they carry, with the widths of Chapter 10. Each command is one whole event (2.5). -/

namespace Sys2Proof

/-- The 6-byte vehicle id of IDENT (10.6). -/
abbrev VehicleId := Vector Byte 6

/-- One 16-byte page of the configuration image (R169). -/
abbrev Page := Vector Byte 16

/-- The 8-byte run card as it stands in IDENT and CARD (10.6). -/
structure WireCard where
  departure : Word
  eroute : Word
  conditioningPresent : Byte
  pcond : Word
  tcond : Byte
  deriving DecidableEq, Repr

/-- The payload of STATUS (10.6). -/
structure WireStatus where
  eveh : Word
  ecap : Word
  pvmax : Word
  pvdis : Word
  flags : Byte
  echo : Byte
  deriving DecidableEq, Repr

/-- The payload of REPORT (10.7). -/
structure WireReport where
  power : Word
  state : Byte
  temperature : Byte
  deriving DecidableEq, Repr

/-- The payload of ANNOUNCE (10.5). -/
structure WireAnnounce where
  station : Byte
  role : Byte
  flags : Byte
  readiness : Byte
  urgency : Byte
  claim : Word
  held : Word
  draw : Word
  offerUp : Word
  offerDown : Word
  dischargeOffer : Word
  lendable : Word
  feederLoad : Word
  deriving DecidableEq, Repr

/-- The payload of SHED (10.5). -/
structure WireShed where
  station : Byte
  fraction : Word
  deriving DecidableEq, Repr

/-- What a reception on the depot link brought, with what the receiver's line sense found as the reception began (R66,
R77, assumption 27). -/
structure Heard (α : Type) where
  /-- the latest reset was past, and the line had become idle again after every own transmission since the latest start
  reset that started before the reception's end (R77, R83, R84) -/
  fresh : Bool
  content : α
  deriving DecidableEq, Repr

/-- One command of the part: a row of spec/opcode_table.json with its operands. -/
inductive Instr where
  /-- START_RESET (R170): power-on or the RESET pin. -/
  | startReset
  /-- LOAD_COMPLETE (R170): the memory has answered every read of the load. -/
  | loadComplete
  /-- CONFIG_MEMORY_TIMEOUT (R170, R174): a memory access went unanswered for 10 ms. `answered` is how many image
  bytes the memory had answered before that, and is used by a load only. -/
  | configMemoryTimeout (answered : Nat)
  /-- CONNECTOR_SAMPLE (R17): the pilot voltage in mV, whether the latch circuit is sensed and whether earth
  continuity is sensed. -/
  | connectorSample (pilotMillivolts : Int) (latchSensed earthSensed : Bool)
  /-- HELLO_REPLY_TIMER_EXPIRY (R8). -/
  | helloReplyTimerExpiry
  /-- FORWARD_FRAME_SEND (R11): the first waiting forward frame goes out. -/
  | forwardFrameSend
  /-- IDENT_RECEIVED (R9). -/
  | identReceived (id : VehicleId) (card : WireCard)
  /-- STATUS_RECEIVED (R13). -/
  | statusReceived (status : WireStatus)
  /-- CARD_RECEIVED (R14). -/
  | cardReceived (card : WireCard)
  /-- VEHICLE_FRAME_DISCARDED (R11): the characters of a back frame: kind, payload and CRC. -/
  | vehicleFrameDiscarded (frame : List Byte)
  /-- VEHICLE_WATCHDOG_EXPIRY (R18). -/
  | vehicleWatchdogExpiry
  /-- MINUTE_TIMER_EXPIRY (R29). -/
  | minuteTimerExpiry
  /-- LOOPTEST_START (R22): a service request. -/
  | looptestStart
  /-- LOOPTEST_STOP (R24): a service request. -/
  | looptestStop
  /-- TEST_FRAME_RETURN (R23): the characters of a frame received on the vehicle line during a loop test. -/
  | testFrameReturn (frame : List Byte)
  /-- RETURN_WINDOW_EXPIRY (R23). -/
  | returnWindowExpiry
  /-- REPORT_RECEIVED (R153). -/
  | reportReceived (report : WireReport)
  /-- STAGE_FRAME_DISCARDED (R153): the characters of a power stage port frame: kind, payload and CRC. -/
  | stageFrameDiscarded (frame : List Byte)
  /-- FEEDER_SAMPLE (R164): a REPORT of the metering unit. -/
  | feederSample (report : WireReport)
  /-- CONTROL_PERIOD (R155). -/
  | controlPeriod
  /-- STAGE_SILENT (R163). -/
  | stageSilent
  /-- IDLE_TIMER_EXPIRY (R162). -/
  | idleTimerExpiry
  /-- WAKE_TIMER_EXPIRY (R163). -/
  | wakeTimerExpiry
  /-- LENDABLE_UPDATE (R58). -/
  | lendableUpdate
  /-- OFFER_COMPUTE (R142). -/
  | offerCompute
  /-- LISTEN_TIMER_EXPIRY (R69). -/
  | listenTimerExpiry
  /-- ANNOUNCE_TIMER_EXPIRY (R71). -/
  | announceTimerExpiry
  /-- TRANSMISSION_START (R73): the transmitter senses that the depot link has been idle for this many µs. -/
  | transmissionStart (idleMicros : Nat)
  /-- COLLISION (R74). -/
  | collision
  /-- TRANSMISSION_COMPLETE (R75). -/
  | transmissionComplete
  /-- RECEPTION_END (R77): the characters of a depot link reception that followed its start delimiter. -/
  | receptionEnd (characters : Heard (List Byte))
  /-- ANNOUNCE_RECEIVED (R86). -/
  | announceReceived (frame : Heard WireAnnounce)
  /-- SHED_RECEIVED (R122). -/
  | shedReceived (frame : Heard WireShed)
  /-- PEER_ENTRY_EXPIRY (R87): the age of this station's entry reaches T_sil. -/
  | peerEntryExpiry (station : Nat)
  /-- SHED_HOLD_EXPIRY (R123). -/
  | shedHoldExpiry
  /-- MAINS_EDGE (R132): the edge's time on the 1 MHz timebase, in µs. -/
  | mainsEdge (timeMicros : Nat)
  /-- EDGE_TIMEOUT (R133). -/
  | edgeTimeout
  /-- READ_ITEM (R180): a service request. -/
  | readItem (item index : Byte)
  /-- WRITE_SHADOW (R172): a service request. -/
  | writeShadow (offset : Byte) (data : List Byte)
  /-- WRITEBACK (R173): a service request. -/
  | writeback
  /-- WRITEBACK_PAGE_DONE (R174): the 16 bytes the memory gives when the page is read back. -/
  | writebackPageDone (readBack : Page)
  /-- RESTART (R176): a service request. -/
  | restart
  /-- ATTN_READ (R182): a service request. -/
  | attnRead
  /-- ATTN_REARM (R182): a service request. -/
  | attnRearm
  /-- READ_TRANSFER (R178): the master clocks this many bytes after the first byte 02 hex. -/
  | readTransfer (clocked : Nat)
  /-- SERVICE_REQUEST_INVALID (R178): the bytes of a request transfer after the first byte 01 hex. -/
  | serviceRequestInvalid (frame : List Byte)
  deriving DecidableEq, Repr

end Sys2Proof
end

