-- ==== Sys2Proof/Decode.lean ====
section
/-! DEFINITION. The commands that words of the opcode table spell. No row of spec/opcode_table.json gives bits (every
row's "fields" is empty and none has a "fixed"), so no word spells a command. The frames of the part's lines are
decoded in Machine/Operands.lean. -/

namespace Sys2Proof

/-- The command that the `nbits` bits of `w` spell by the table: none, since no row gives bits. -/
def decodeTableWord (_nbits _w : Nat) : Option Instr := none

end Sys2Proof
end

