-- ==== Sys2Proof/Config.lean ====
section
/-! DEFINITION. The values the manual leaves open. Each is a constant without a body: no proof can see what it is. -/

namespace Sys2Proof

/-- Whether byte `position` of the page the memory was writing is new when the write was cut off by a start reset
(R175: "may hold old bytes, new bytes or a mixture") or went unanswered (R174: "whatever the memory kept of the failed
write"); otherwise it is old. `draw` is the running number of the free value. Assumption 4. -/
opaque Config.tornIsNew (draw position : Nat) : Bool

/-- What a read transfer clocks out `position` bytes after the end of the response frame (R178 states no value).
`draw` is the running number of the free value. Assumption 5. -/
opaque Config.byteAfterFrame (draw position : Nat) : Byte

/-- Whether a REPORT received in LOADING or UNCONFIGURED reaches the meter feed (R121: "the samples still reach the
meter feed") or is discarded (R152: "each REPORT it receives is discarded"; R164). `draw` is the running number of the
free value. Assumption 40. -/
opaque Config.sampleReachesFeed (draw : Nat) : Bool

end Sys2Proof
end

