-- ==== Sys2Proof/Machine/State.lean ====
section
/-! DEFINITION. The state of the DX-32 as plain data: one structure for each block of 2.1 with the state its chapter
gives it, the external configuration memory, the timebase, the bytes last put on each output line, and the queue of
waiting commands. Powers are in 0.1 kW, energies in 0.1 kWh, running timers and ages in µs, each from its own start. -/

namespace Sys2Proof.Machine

/-- Bytes held at addresses in canonical form: addresses strictly rising, no entry 0. An unlisted address reads as 0. -/
abbrev Mem := List Host.Cell

/-! ## Vehicle line controller (Chapter 1) -/

/-- The class of a pilot sample (R3). -/
inductive PilotClass where
  | shortHigh | none | present | energy | invalid | shortLow
  deriving DecidableEq, Repr

/-- The class of a proximity sample (R3). -/
inductive Proximity where
  | opened | closed
  deriving DecidableEq, Repr

/-- The class of an earth sample (R3). -/
inductive Earth where
  | ok | lost
  deriving DecidableEq, Repr

/-- The reasons a halt can be reported with (R6, R163). -/
inductive HaltReason where
  | pilotShortLow | pilotShortHigh | pilotInvalid | proximityOpen | earthLost | vehicleSilent | crossed | linkup
  | vehicleFault | stageSilent | stageFault | stageTimeout
  deriving DecidableEq, Repr

/-- The reason a STOP carries (R12, 10.6). -/
inductive StopReason where
  | halt (reason : HaltReason)
  | unplugged
  | restart
  deriving DecidableEq, Repr

/-- A forward frame on the vehicle line (R8, R12). -/
inductive ForwardFrame where
  | hello (session : Byte) (station : Nat) (prated : Nat)
  | permit (session : Byte) (demand : Int)
  | stop (session : Byte) (reason : StopReason)
  deriving DecidableEq, Repr

/-- The result of the loop test (R23, R24, R25). The test runs exactly while the result is `running`. -/
inductive LoopResult where
  | none | running | pass | fail | aborted
  deriving DecidableEq, Repr

/-- The state of the vehicle line controller (2.1, R25). -/
structure VehicleLine where
  /-- the classes of the latest pilot samples, at most three, newest last (R4) -/
  pilotHistory : List PilotClass
  proximityHistory : List Proximity
  earthHistory : List Earth
  /-- the confirmed classes (R4) -/
  pilot : PilotClass
  proximity : Proximity
  earth : Earth
  /-- the session number (R5) -/
  session : Byte
  /-- whether a session exists (1.2): from link-up start to the end of the connection -/
  sessionOpen : Bool
  /-- the HELLO send count (R8); 0 when cleared -/
  helloCount : Nat
  /-- the HELLO reply timer: µs left, or stopped (R8) -/
  helloTimer : Option Nat
  /-- the vehicle watchdog: µs left, or stopped (R18) -/
  watchdog : Option Nat
  vehicleId : Option VehicleId
  /-- the last vehicle STATUS, stored whole (R13) -/
  lastStatus : Option WireStatus
  /-- the waiting forward frames, oldest first (R11) -/
  waiting : List ForwardFrame
  /-- the functional CRC counter (R21) -/
  crcErrors : Nat
  loopResult : LoopResult
  /-- the index of the test frame that waits for the line or is in flight (R23) -/
  loopIndex : Nat
  /-- the test error counter (R23) -/
  loopErrors : Nat
  /-- the return window: µs left, or none open, as while the test frame waits for the line (R23) -/
  loopWindow : Option Nat
  /-- the characters of the frame last put on VL_TX -/
  tx : List Byte
  deriving DecidableEq, Repr

/-! ## Readiness tracker (Chapter 2) -/

/-- The readiness states (2.4). -/
inductive Readiness where
  | vacant | linking | unplanned | charging | atRisk | topped | conditioning | due | halted
  deriving DecidableEq, Repr

/-- A conditioning part that is present (R27). -/
structure Conditioning where
  pcond : Nat
  tcond : Nat
  deriving DecidableEq, Repr

/-- A stored run card (R27). A departure of 65535 plans no run. -/
structure RunCard where
  departure : Nat
  eroute : Nat
  conditioning : Option Conditioning
  deriving DecidableEq, Repr

/-- The derived values of 2.2. `egap` is absent while it is pending (R31). -/
structure Derived where
  efloor : Nat
  egap : Option Nat
  pmax : Nat
  tmin : Option Nat
  slack : Option Int
  windowOpen : Bool
  etarget : Nat
  deriving DecidableEq, Repr

/-- The outcome of a session (R41, R42, R44). -/
inductive RunOutcome where
  | met | short | halted | noPlan
  deriving DecidableEq, Repr

/-- The last-session record (R45). -/
structure LastSession where
  vehicleId : Option VehicleId
  outcome : RunOutcome
  energyIn : Nat
  energyOut : Nat
  atRiskMinutes : Nat
  haltReason : Option HaltReason
  deriving DecidableEq, Repr

/-- The state of the readiness tracker (2.1, R48). -/
structure Tracker where
  readiness : Readiness
  card : Option RunCard
  /-- the departure countdown: 0 to 1440, 65535 for no run planned, absent when cleared (R29, R48) -/
  countdown : Option Nat
  /-- the minute timer: µs left, or stopped (R29) -/
  minuteTimer : Option Nat
  derived : Option Derived
  urgency : Nat
  claim : Nat
  outcome : Option RunOutcome
  haltReason : Option HaltReason
  /-- the mark of R28: the session has held a card with a departure -/
  planMark : Bool
  atRiskMinutes : Nat
  record : Option LastSession
  deriving DecidableEq, Repr

/-! ## Energy account (Chapter 3) -/

/-- Which condition of R57 decided L. -/
inductive LendingGate where
  | isOpen | notTopped | inWindow | belowGuard
  deriving DecidableEq, Repr

/-- The state of the energy account (R50). Residues are in units of 10 J. -/
structure Account where
  deltaResidue : Int
  delta : Int
  inResidue : Nat
  energyIn : Nat
  outResidue : Nat
  energyOut : Nat
  enow : Option Nat
  lendable : Nat
  gate : LendingGate
  offer : Nat
  deriving DecidableEq, Repr

/-! ## Link controller (Chapter 4) -/

/-- The station states (4.2). -/
inductive Station where
  | loading | unconfigured | listening | running | clash
  deriving DecidableEq, Repr

/-- The roles of a station (2.3). -/
inductive Role where
  | post | meter
  deriving DecidableEq, Repr

/-- An own ANNOUNCE in hand with its attempt count (R73). -/
structure AnnounceInHand where
  frame : WireAnnounce
  attempts : Nat
  deriving DecidableEq, Repr

/-- An own SHED in hand with its attempt count (R73, R76). -/
structure ShedInHand where
  frame : WireShed
  attempts : Nat
  deriving DecidableEq, Repr

/-- Which own frame is being transmitted (R73). -/
inductive OwnFrame where
  | announce | shed
  deriving DecidableEq, Repr

/-- What the receiver of the depot link delivers (R77). -/
inductive Receiver where
  /-- every reception -/
  | hearing
  /-- an own frame has started at this very instant: the reception that ended at it, which is still to be decided (R79,
  step 4) -/
  | ending
  /-- none but one that began after the line had become idle again; the station has not driven the line for `quiet` µs.
  A reset leaves the receiver so as well, for it discards a reception in progress (R83, R84, assumption 27) -/
  | deaf (quiet : Nat)
  deriving DecidableEq, Repr

/-- The state of the link controller (2.1, R83). -/
structure Link where
  station : Station
  /-- the listen timer: µs left, or stopped (R69) -/
  listenTimer : Option Nat
  /-- the announce timer: µs left, or stopped (R70) -/
  announceTimer : Option Nat
  /-- the sequence generator, unseeded until an entry to RUNNING seeds it (R70, R83) -/
  sequence : Option Word
  announceHand : Option AnnounceInHand
  shedHand : Option ShedInHand
  /-- the SHED that waits behind a SHED being transmitted (R76) -/
  shedBehind : Option WireShed
  transmitting : Option OwnFrame
  /-- the idle time of the line in µs, counted from the end of the last stop bit (R66); busy below 40 µs -/
  idleTime : Nat
  receiver : Receiver
  /-- the receive buffer: the characters of a reception in progress (4.5, R83) -/
  receiveBuffer : List Byte
  goodFrames : Nat
  crcErrors : Nat
  malformed : Nat
  collisions : Nat
  dropped : Nat
  /-- the characters of the frame last put on the depot link pair -/
  tx : List Byte
  deriving DecidableEq, Repr

/-! ## Peer table (Chapter 5) -/

/-- One entry of the peer table (R85): the announced fields as stored by R86, and the age in µs. -/
structure Peer where
  station : Nat
  role : Role
  flags : Byte
  readiness : Nat
  urgency : Nat
  claim : Nat
  held : Nat
  draw : Int
  offerUp : Nat
  offerDown : Nat
  dischargeOffer : Nat
  lendable : Nat
  feederLoad : Nat
  age : Nat
  deriving DecidableEq, Repr

/-- The peer table (R85): entries in ascending order of station number, and the ALONE condition (R92). -/
structure PeerTable where
  entries : List Peer
  alone : Bool
  deriving DecidableEq, Repr

/-! ## Share engine (Chapter 6) -/

/-- The budget record of an allocation (R106). -/
structure Budget where
  guard : Nat
  /-- the governing meter's station number, or absent for SITE -/
  meter : Option Nat
  /-- M where used (R105) -/
  feederLoad : Option Nat
  totalDraw : Int
  siteLoad : Nat
  headroom : Int
  budget : Nat
  overdraw : Nat
  deriving DecidableEq, Repr

/-- The state of the share engine (R101). -/
structure Share where
  allowance : Nat
  held : Nat
  tenure : Bool
  /-- T_left in ms (R112) -/
  tenureLeft : Int
  discharge : Nat
  shedHold : Bool
  /-- the shed-hold timer: µs left, or stopped (R123) -/
  shedTimer : Option Nat
  shedCap : Nat
  /-- the last allocation time on the timebase, in µs (R104) -/
  lastAllocation : Option Nat
  /-- the interval of the latest allocation, in ms (R104) -/
  interval : Nat
  budget : Option Budget
  contested : Bool
  overloadCount : Nat
  shedding : Bool
  lastFraction : Option Nat
  deriving DecidableEq, Repr

/-! ## Reserve unit (Chapter 7) -/

/-- The reserve states (7.3). -/
inductive ReserveState where
  | disabled | starting | measuring | mainsLost
  deriving DecidableEq, Repr

/-- A measurement in progress (R131, R132): times in µs. -/
structure Measurement where
  start : Nat
  edges : Nat
  periodSum : Nat
  deriving DecidableEq, Repr

/-- The state of the reserve unit (R131). -/
structure Reserve where
  measurement : Option Measurement
  /-- the edge timeout: µs left, or stopped (R133) -/
  edgeTimeout : Option Nat
  lastFrequency : Option Nat
  /-- the mark of the last frequency -/
  plausible : Bool
  /-- the last plausible deviations in mHz, oldest first, at most 3 -/
  history : List Int
  active : Int
  droop : Nat
  implausibleCount : Nat
  recoveryCount : Nat
  state : ReserveState
  offerUp : Nat
  offerDown : Nat
  upShare : Nat
  downShare : Nat
  shortUp : Bool
  shortDown : Bool
  response : Int
  deriving DecidableEq, Repr

/-! ## Setpoint composer (Chapter 8) -/

/-- The stage mode sent in each DEMAND (R160). -/
inductive StageMode where
  | standby | wake | run
  deriving DecidableEq, Repr

/-- The converter state as last reported (R152). -/
inductive Converter where
  | standby | waking | ready | fault
  deriving DecidableEq, Repr

/-- The state of the setpoint composer (R152). -/
structure Composer where
  ramped : Nat
  target : Int
  upperClamp : Int
  lowerClamp : Int
  output : Int
  residue : Int
  demand : Int
  mode : StageMode
  converter : Option Converter
  draw : Int
  temperature : Option Int
  derateIndex : Nat
  derateFactor : Nat
  pderated : Nat
  settle : Nat
  /-- the idle timer: ms spent idle in RUN (R162) -/
  idleTimer : Nat
  /-- the wake timer: µs spent in WAKE, or stopped (R163) -/
  wakeTimer : Option Nat
  /-- STAGE_TIMEOUT stands: the wake timer ran out, and no wake has started since (R163, R166, assumption 38) -/
  timedOut : Bool
  silentCount : Nat
  /-- the latest feeder sample (R164) -/
  feederSample : Option Int
  /-- the characters of the frame last put on PS_TX -/
  tx : List Byte
  deriving DecidableEq, Repr

/-! ## Configuration store (Chapter 9) -/

/-- The working copy (R171). `tann` is in 10 ms, `nomf` in Hz, `derate` has 16 entries. -/
structure WorkingCopy where
  station : Nat
  role : Role
  protect : Nat
  fcap : Nat
  site : Nat
  guard : Nat
  isldiv : Nat
  upcommit : Nat
  dncommit : Nat
  nomf : Nat
  db : Nat
  full : Nat
  tann : Nat
  ksil : Nat
  tenure : Nat
  shedhold : Nat
  trip : Nat
  ntrip : Nat
  s2 : Nat
  s3 : Nat
  margin : Nat
  target : Nat
  lendguard : Nat
  protectWindow : Nat
  pdismax : Nat
  prated : Nat
  ramp : Nat
  qstep : Nat
  idle : Nat
  derate : List Nat
  vwd : Nat
  mask : Word
  deriving DecidableEq, Repr

/-- The load result (R170, R171, R177). -/
inductive LoadResult where
  | loaded | loadedClamped | noAnswer | signature | crc | station | role | loading
  deriving DecidableEq, Repr

/-- The last write-back result (R174). -/
inductive WritebackResult where
  | none | done | failed
  deriving DecidableEq, Repr

/-- The state of the configuration store (R177), and the external memory it reads and writes. -/
structure Store where
  /-- the external configuration memory: 2 KiB, of which the part uses addresses 0 to 255 (Chapter 9) -/
  memory : Mem
  /-- the shadow image, addresses 0 to 255 -/
  shadow : Mem
  working : Option WorkingCopy
  loadResult : LoadResult
  clamped : Bool
  writebackRunning : Bool
  writebackPage : Nat
  writebackResult : WritebackResult
  failingPage : Nat
  deriving DecidableEq, Repr

/-! ## Service port and attention (Chapter 10) -/

/-- The attention causes (R181). -/
inductive Cause where
  | atRiskEntered | halted | clash | unconfigured | configClamped | reserveShort | aloneEntered | shedHeard
  | mainsLost | writebackDone | writebackFailed | looptestDone
  deriving DecidableEq, Repr

/-- The status codes of a response (R179). -/
inductive Status where
  | ok | busy | refused | rangeError | protectedPage
  deriving DecidableEq, Repr

/-- A response frame before its length and CRC are added (10.9). -/
structure Response where
  status : Status
  data : List Byte
  deriving DecidableEq, Repr

/-- The state of the service port and the attention line (2.1, R178, R181, R182). -/
structure Service where
  /-- the pending attention set, bit n for cause n of 10.9 -/
  pendingCauses : BitVec 12
  armed : Bool
  /-- the one-deep response buffer (R178) -/
  response : Option Response
  /-- the bytes clocked out on SV_DO after the first byte of the latest transfer -/
  tx : List Byte
  deriving DecidableEq, Repr

/-! ## The whole part -/

/-- The state of the part. `clock` is the part's timebase in µs; `freeDraws` counts the free values drawn (the model's
own field); `pending` is the queue of commands that wait, first in first out. -/
structure State where
  vehicle : VehicleLine
  tracker : Tracker
  account : Account
  link : Link
  peers : PeerTable
  share : Share
  reserve : Reserve
  composer : Composer
  store : Store
  service : Service
  clock : Nat
  freeDraws : Nat
  pending : List Instr
  deriving DecidableEq, Repr

/-- The faults that stop the machine: none. The manual describes no condition in which the part stops taking events;
every error it names is a state, a count, a flag or a status code. Safe. -/
inductive Fault where
  deriving DecidableEq, Repr

/-- The refusals of a command. -/
inductive Refusal where
  /-- Raised by `exec` alone, for a row without a meaning. Safe: nothing is claimed of such a command. No arm of
  `exec` raises it. -/
  | notModelled (mnemonic : String)
  deriving DecidableEq, Repr

/-! ## Reset values -/

/-- The vehicle line controller after a start reset (R25). -/
def VehicleLine.reset : VehicleLine where
  pilotHistory := []
  proximityHistory := []
  earthHistory := []
  pilot := .none
  proximity := .opened
  earth := .ok
  session := 0
  sessionOpen := false
  helloCount := 0
  helloTimer := none
  watchdog := none
  vehicleId := none
  lastStatus := none
  waiting := []
  crcErrors := 0
  loopResult := .none
  loopIndex := 0
  loopErrors := 0
  loopWindow := none
  tx := []

/-- The readiness tracker after a start reset (R48). -/
def Tracker.reset : Tracker where
  readiness := .vacant
  card := none
  countdown := none
  minuteTimer := none
  derived := none
  urgency := 0
  claim := 0
  outcome := none
  haltReason := none
  planMark := false
  atRiskMinutes := 0
  record := none

/-- The energy account after a start reset (R63). -/
def Account.reset : Account where
  deltaResidue := 0
  delta := 0
  inResidue := 0
  energyIn := 0
  outResidue := 0
  energyOut := 0
  enow := none
  lendable := 0
  gate := .notTopped
  offer := 0

/-- The link controller after a start reset (R83). -/
def Link.reset : Link where
  station := .loading
  listenTimer := none
  announceTimer := none
  sequence := none
  announceHand := none
  shedHand := none
  shedBehind := none
  transmitting := none
  idleTime := 0
  receiver := .deaf 40
  receiveBuffer := []
  goodFrames := 0
  crcErrors := 0
  malformed := 0
  collisions := 0
  dropped := 0
  tx := []

/-- The peer table after a start reset (R99). -/
def PeerTable.reset : PeerTable where
  entries := []
  alone := false

/-- The share engine after a start reset (R129). -/
def Share.reset : Share where
  allowance := 0
  held := 0
  tenure := false
  tenureLeft := 0
  discharge := 0
  shedHold := false
  shedTimer := none
  shedCap := 0
  lastAllocation := none
  interval := 0
  budget := none
  contested := false
  overloadCount := 0
  shedding := false
  lastFraction := none

/-- The reserve unit after a start reset (R150). -/
def Reserve.reset : Reserve where
  measurement := none
  edgeTimeout := none
  lastFrequency := none
  plausible := false
  history := []
  active := 0
  droop := 0
  implausibleCount := 0
  recoveryCount := 0
  state := .starting
  offerUp := 0
  offerDown := 0
  upShare := 0
  downShare := 0
  shortUp := false
  shortDown := false
  response := 0

/-- The setpoint composer after a start reset (R167). -/
def Composer.reset : Composer where
  ramped := 0
  target := 0
  upperClamp := 0
  lowerClamp := 0
  output := 0
  residue := 0
  demand := 0
  mode := .standby
  converter := none
  draw := 0
  temperature := none
  derateIndex := 0
  derateFactor := 0
  pderated := 0
  settle := 0
  idleTimer := 0
  wakeTimer := none
  timedOut := false
  silentCount := 0
  feederSample := none
  tx := []

/-- The configuration store during LOADING, before the load ends (R177), over a memory that holds `memory`. -/
def Store.reset (memory : Mem) : Store where
  memory := memory
  shadow := []
  working := none
  loadResult := .loading
  clamped := false
  writebackRunning := false
  writebackPage := 0
  writebackResult := .none
  failingPage := 0

/-- The service port and attention after a start reset (R183). -/
def Service.reset : Service where
  pendingCauses := 0
  armed := true
  response := none
  tx := []

/-- The part right after a start reset: LOADING, every block in its start-reset state, a blank configuration memory
(assumption 1) and an empty queue. -/
def State.reset : State where
  vehicle := VehicleLine.reset
  tracker := Tracker.reset
  account := Account.reset
  link := Link.reset
  peers := PeerTable.reset
  share := Share.reset
  reserve := Reserve.reset
  composer := Composer.reset
  store := Store.reset []
  service := Service.reset
  clock := 0
  freeDraws := 0
  pending := []

end Sys2Proof.Machine
end

