-- ==== Sys2Proof/Machine/Bytes.lean ====
section
/-! DEFINITION. Byte order, saturation and the CRC-16 (3.2, 3.3, R185). -/

namespace Sys2Proof.Machine

/-- A value clamped to a range (R1). -/
def clampNat (lo hi n : Nat) : Nat := max lo (min hi n)

/-- A signed value clamped to a range (R1). -/
def clampInt (lo hi x : Int) : Int := max lo (min hi x)

/-- A counter that saturates at its largest value and holds there (R1). -/
def bump (largest n : Nat) : Nat := if n < largest then n + 1 else n

/-- Division rounded up, for the rules that call for it (R1). -/
def ceilDiv (n d : Nat) : Nat := (n + d - 1) / d

/-- A list that keeps the three newest entries, newest last (R4, R136). -/
def joinThree {α : Type} (x : α) (l : List α) : List α :=
  if l.length < 3 then l ++ [x] else l.drop (l.length - 2) ++ [x]

/-- One byte of a value beyond whose range the nearer bound is sent (10.10). -/
def byteOf (n : Nat) : Byte := BitVec.ofNat 8 (min n 255)

/-- A two-byte field, low byte first (3.3). -/
def bytesOfWord (w : Word) : List Byte := [w.setWidth 8, (w >>> 8).setWidth 8]

/-- The two-byte field in which low byte stands first (3.3). -/
def wordOfBytes (lo hi : Byte) : Word := hi ++ lo

/-- An unsigned value in two bytes; a value beyond the field is sent as the nearer bound (10.10). -/
def wordOfNat (n : Nat) : Word := BitVec.ofNat 16 (min n 65535)

/-- A signed value in two bytes; a value beyond the field is sent as the nearer bound (10.10). -/
def wordOfInt (x : Int) : Word := BitVec.ofInt 16 (clampInt (-32768) 32767 x)

/-- An unsigned two-byte field (3.3, 10.10). -/
def nat16 (n : Nat) : List Byte := bytesOfWord (wordOfNat n)

/-- A signed two-byte field (3.3, 10.10). -/
def int16 (x : Int) : List Byte := bytesOfWord (wordOfInt x)

/-- A four-byte field, low byte first (3.3). -/
def bytesOfLong (w : BitVec 32) : List Byte :=
  [w.setWidth 8, (w >>> 8).setWidth 8, (w >>> 16).setWidth 8, (w >>> 24).setWidth 8]

/-- An unsigned four-byte field (10.10). -/
def nat32 (n : Nat) : List Byte := bytesOfLong (BitVec.ofNat 32 (min n 4294967295))

/-- A signed four-byte field (10.10). -/
def int32 (x : Int) : List Byte := bytesOfLong (BitVec.ofInt 32 (clampInt (-2147483648) 2147483647 x))

/-- A flag in one byte: 0 for clear or OFF, 1 for set or ON (10.10). -/
def flagByte (b : Bool) : Byte := if b then 1 else 0

/-- A value that may be absent: a presence byte, then its value bytes, 0 when absent (10.10). -/
def mayBeAbsent {α : Type} (width : Nat) (bytes : α → List Byte) : Option α → List Byte
  | some x => 1 :: bytes x
  | none => 0 :: List.replicate width 0

/-- One shift of the CRC register, with x^16 + x^12 + x^5 + 1 as generator (R185). -/
def crcShift (crc : Word) : Word := if crc.msb then (crc <<< 1) ^^^ 0x1021#16 else crc <<< 1

/-- `n` shifts of the CRC register. -/
def crcShifts : Nat → Word → Word
  | 0, crc => crc
  | n + 1, crc => crcShifts n (crcShift crc)

/-- The CRC register after one byte, its bits taken most significant first (R185). -/
def crcByte (crc : Word) (b : Byte) : Word := crcShifts 8 (crc ^^^ (b.setWidth 16 <<< 8))

/-- The CRC-16 of the part: starting value FFFF hex, no final inversion (R185). -/
def crc16 (bytes : List Byte) : Word := bytes.foldl crcByte 0xFFFF#16

/-- A frame: its bytes, then the CRC-16 over them, low byte first (R185). -/
def sealFrame (bytes : List Byte) : List Byte := bytes ++ bytesOfWord (crc16 bytes)

/-- The bytes before a frame's CRC, when there is at least one and the CRC over them is right (R77, R185). -/
def unsealFrame (frame : List Byte) : Option (List Byte) :=
  if frame.length < 3 then none
  else if frame = sealFrame (frame.take (frame.length - 2)) then some (frame.take (frame.length - 2)) else none

end Sys2Proof.Machine
end

