-- ==== Sys2Proof/Machine/Memory.lean ====
section
/-! DEFINITION. The configuration memory and the shadow: byte reads and writes that keep the canonical form, the pages
of R169 and the CRC bytes of the image. -/

namespace Sys2Proof.Machine

/-- The byte at an address; an unlisted address reads as 0. -/
def readByte : Mem → Nat → Byte
  | [], _ => 0
  | (k, b) :: rest, a => if k = a then b else readByte rest a

/-- Writing one byte: the entry is replaced, inserted in order, or removed when the byte is 0. -/
def writeByte : Mem → Nat → Byte → Mem
  | [], a, v => if v = 0 then [] else [(a, v)]
  | (k, b) :: rest, a, v =>
    if k < a then (k, b) :: writeByte rest a v
    else if k = a then (if v = 0 then rest else (a, v) :: rest)
    else if v = 0 then (k, b) :: rest
    else (a, v) :: (k, b) :: rest

/-- Writing bytes at rising addresses from `a` on. -/
def writeBytes : Mem → Nat → List Byte → Mem
  | m, _, [] => m
  | m, a, b :: rest => writeBytes (writeByte m a b) (a + 1) rest

/-- `n` bytes from address `a` on. -/
def readBytes (m : Mem) (a n : Nat) : List Byte := (List.range n).map fun i => readByte m (a + i)

/-- The two-byte field at an address, low byte first (3.3). -/
def readWord (m : Mem) (a : Nat) : Word := wordOfBytes (readByte m a) (readByte m (a + 1))

/-- The bytes below address `n`, every other byte 0: what a load that was answered `n` times leaves (R170). -/
def below (n : Nat) (m : Mem) : Mem := m.filter fun c => c.1 < n

/-- The canonical form: no entry 0, addresses strictly rising. -/
def Mem.wf : Mem → Bool
  | [] => true
  | [c] => c.2 != 0
  | c :: d :: rest => c.2 != 0 && c.1 < d.1 && Mem.wf (d :: rest)

/-- The sixteen bytes of page `n` (R169). -/
def pageBytes (m : Mem) (n : Nat) : List Byte := readBytes m (16 * n) 16

/-- The CRC-16 over image bytes 0 to 253 (R170, R185). -/
def imageCrc (m : Mem) : Word := crc16 (readBytes m 0 254)

/-- The image with its CRC recomputed into bytes 254 and 255 (R174, R176). -/
def withImageCrc (m : Mem) : Mem := writeBytes m 254 (bytesOfWord (imageCrc m))

end Sys2Proof.Machine
end

