-- ==== Sys2Proof/Machine/Formats.lean ====
section
/-! DEFINITION. The byte layouts of what the part sends (10.4 to 10.10): codes, frames and response frames. -/

namespace Sys2Proof.Machine

/-! ## Codes -/

/-- The reason codes of 10.6. -/
def HaltReason.code : HaltReason → Nat
  | .pilotShortLow => 1
  | .pilotShortHigh => 2
  | .pilotInvalid => 3
  | .proximityOpen => 4
  | .earthLost => 5
  | .vehicleSilent => 6
  | .crossed => 7
  | .linkup => 8
  | .vehicleFault => 9
  | .stageSilent => 10
  | .stageFault => 11
  | .stageTimeout => 12

/-- The reason codes of 10.6, as STOP carries them. -/
def StopReason.code : StopReason → Nat
  | .halt r => r.code
  | .unplugged => 13
  | .restart => 14

/-- The readiness state codes of 10.5. -/
def Readiness.code : Readiness → Nat
  | .vacant => 0
  | .linking => 1
  | .unplanned => 2
  | .charging => 3
  | .atRisk => 4
  | .topped => 5
  | .conditioning => 6
  | .due => 7
  | .halted => 8

/-- The role codes of 10.5. -/
def Role.code : Role → Nat
  | .post => 1
  | .meter => 2

/-- The role a role byte names (10.5, 10.8). -/
def Role.ofByte (b : Byte) : Option Role := if b = 1 then some .post else if b = 2 then some .meter else none

/-- The station state codes of item 1 (10.10). -/
def Station.code : Station → Nat
  | .loading => 0
  | .unconfigured => 1
  | .listening => 2
  | .running => 3
  | .clash => 4

/-- The pilot class codes of item 3 (10.10). -/
def PilotClass.code : PilotClass → Nat
  | .none => 0
  | .present => 1
  | .energy => 2
  | .invalid => 3
  | .shortLow => 4
  | .shortHigh => 5

/-- The proximity codes of 10.10. -/
def Proximity.code : Proximity → Nat
  | .opened => 0
  | .closed => 1

/-- The earth codes of 10.10. -/
def Earth.code : Earth → Nat
  | .ok => 0
  | .lost => 1

/-- The outcome codes of 10.10. -/
def RunOutcome.code : RunOutcome → Nat
  | .met => 1
  | .short => 2
  | .halted => 3
  | .noPlan => 4

/-- The lending gate codes of 10.10. -/
def LendingGate.code : LendingGate → Nat
  | .isOpen => 0
  | .notTopped => 1
  | .inWindow => 2
  | .belowGuard => 3

/-- The reserve state codes of 10.10. -/
def ReserveState.code : ReserveState → Nat
  | .disabled => 0
  | .starting => 1
  | .measuring => 2
  | .mainsLost => 3

/-- The stage mode codes of 10.7. -/
def StageMode.code : StageMode → Nat
  | .standby => 0
  | .wake => 1
  | .run => 2

/-- The converter state codes of 10.7. -/
def Converter.code : Converter → Nat
  | .standby => 0
  | .waking => 1
  | .ready => 2
  | .fault => 3

/-- The converter state a REPORT's state byte names; none above 3 (10.7, R184). -/
def Converter.ofByte (b : Byte) : Option Converter :=
  if b = 0 then some .standby else if b = 1 then some .waking else if b = 2 then some .ready
  else if b = 3 then some .fault else none

/-- The test result codes of item 9 (10.10). -/
def LoopResult.code : LoopResult → Nat
  | .none => 0
  | .running => 1
  | .pass => 2
  | .fail => 3
  | .aborted => 4

/-- The load result codes of item 12 (10.10). -/
def LoadResult.code : LoadResult → Nat
  | .loaded => 0
  | .loadedClamped => 1
  | .noAnswer => 2
  | .signature => 3
  | .crc => 4
  | .station => 5
  | .role => 6
  | .loading => 7

/-- The write-back result codes of item 12 (10.10). -/
def WritebackResult.code : WritebackResult → Nat
  | .none => 0
  | .done => 1
  | .failed => 2

/-- The status codes of 10.9. -/
def Status.code : Status → Nat
  | .ok => 0
  | .busy => 1
  | .refused => 2
  | .protectedPage => 3
  | .rangeError => 4

/-! ## Frames -/

/-- A run card as it stands in IDENT and CARD (10.6). -/
def cardBytes (c : WireCard) : List Byte :=
  bytesOfWord c.departure ++ bytesOfWord c.eroute ++ [c.conditioningPresent] ++ bytesOfWord c.pcond ++ [c.tcond]

/-- The payload of STATUS (10.6). -/
def statusBytes (t : WireStatus) : List Byte :=
  bytesOfWord t.eveh ++ bytesOfWord t.ecap ++ bytesOfWord t.pvmax ++ bytesOfWord t.pvdis ++ [t.flags, t.echo]

/-- The payload of ANNOUNCE (10.5). -/
def announceBytes (f : WireAnnounce) : List Byte :=
  [f.station, f.role, f.flags, f.readiness, f.urgency] ++ bytesOfWord f.claim ++ bytesOfWord f.held
    ++ bytesOfWord f.draw ++ bytesOfWord f.offerUp ++ bytesOfWord f.offerDown ++ bytesOfWord f.dischargeOffer
    ++ bytesOfWord f.lendable ++ bytesOfWord f.feederLoad

/-- The payload of REPORT (10.7). -/
def reportBytes (r : WireReport) : List Byte := bytesOfWord r.power ++ [r.state, r.temperature]

/-- The characters of an ANNOUNCE after its delimiter (10.4, 10.5). -/
def announceFrame (f : WireAnnounce) : List Byte := sealFrame (0x01 :: announceBytes f)

/-- The characters of a SHED after its delimiter (10.4, 10.5). -/
def shedFrame (f : WireShed) : List Byte := sealFrame (0x02 :: f.station :: bytesOfWord f.fraction)

/-- The characters of an IDENT (10.4, 10.6). -/
def identFrame (id : VehicleId) (c : WireCard) : List Byte := sealFrame (0x21 :: (id.toList ++ cardBytes c))

/-- The characters of a STATUS (10.4, 10.6). -/
def statusFrame (t : WireStatus) : List Byte := sealFrame (0x22 :: statusBytes t)

/-- The characters of a CARD (10.4, 10.6). -/
def cardFrame (c : WireCard) : List Byte := sealFrame (0x23 :: cardBytes c)

/-- The characters of a REPORT (10.4, 10.7). -/
def reportFrame (r : WireReport) : List Byte := sealFrame (0x32 :: reportBytes r)

/-- The characters of a forward frame after its delimiter (10.4, 10.6). -/
def ForwardFrame.characters : ForwardFrame → List Byte
  | .hello session station prated => sealFrame ([0x11, session, byteOf station] ++ nat16 prated)
  | .permit session demand => sealFrame ([0x12, session] ++ int16 demand)
  | .stop session reason => sealFrame [0x13, session, byteOf reason.code]

/-- Pattern byte `j` of the test frame with index `i` (R23). -/
def patternByte (i j : Nat) : Byte := BitVec.ofNat 8 (i + 37 * j)

/-- The characters of the test frame with index `i` (R23, 10.6). -/
def testFrame (i : Nat) : List Byte :=
  sealFrame (0x1F :: BitVec.ofNat 8 i :: (List.range 8).map (patternByte i))

/-- The characters of a DEMAND (10.7). -/
def demandFrame (demand : Int) (mode : StageMode) : List Byte :=
  sealFrame (0x31 :: (int16 demand ++ [byteOf mode.code]))

/-- A response frame: status, length, data, CRC (10.9). -/
def Response.frame (r : Response) : List Byte :=
  sealFrame (byteOf r.status.code :: byteOf r.data.length :: r.data)

end Sys2Proof.Machine
end

