-- ==== Sys2Proof/Machine/Operands.lean ====
section
/-! DEFINITION. What the part reads out of the frames it receives: which frame a string of characters is, and the
meaning of the fields (R11, R77, R153, R178, R184, 10.4 to 10.9). Reading is total on any bytes. -/

namespace Sys2Proof.Machine

/-! ## Vehicle line -/

/-- What a back frame is found to be (R11). -/
inductive BackFrame where
  | badCrc
  | unknown
  | ident (id : VehicleId) (card : WireCard)
  | status (status : WireStatus)
  | card (card : WireCard)
  | test
  deriving DecidableEq, Repr

/-- A run card read from its eight bytes (10.6). -/
def cardOf : List Byte → Option WireCard
  | [d0, d1, e0, e1, present, p0, p1, t] =>
    some { departure := wordOfBytes d0 d1, eroute := wordOfBytes e0 e1, conditioningPresent := present,
           pcond := wordOfBytes p0 p1, tcond := t }
  | _ => none

/-- An IDENT payload: the vehicle id, then the run card (10.6). -/
def identOf : List Byte → Option (VehicleId × WireCard)
  | a :: b :: c :: d :: e :: f :: rest => (cardOf rest).map fun k => (#v[a, b, c, d, e, f], k)
  | _ => none

/-- A STATUS payload (10.6). -/
def statusOf : List Byte → Option WireStatus
  | [v0, v1, c0, c1, m0, m1, d0, d1, flags, echo] =>
    some { eveh := wordOfBytes v0 v1, ecap := wordOfBytes c0 c1, pvmax := wordOfBytes m0 m1,
           pvdis := wordOfBytes d0 d1, flags := flags, echo := echo }
  | _ => none

/-- The checks of R11 in their order: CRC, then kind and length. A back frame of fewer than three characters has no kind
and CRC to check, and is taken as one with a bad CRC (assumption 35). -/
def backFrameOf (frame : List Byte) : BackFrame :=
  match unsealFrame frame with
  | none => .badCrc
  | some [] => .unknown
  | some (kind :: payload) =>
    if kind = 0x21 then (identOf payload).elim .unknown fun x => .ident x.1 x.2
    else if kind = 0x22 then (statusOf payload).elim .unknown .status
    else if kind = 0x23 then (cardOf payload).elim .unknown .card
    else if kind = 0x1F then (if payload.length = 9 then .test else .unknown)
    else .unknown

/-- The stored form of a run card (R27): its normalisation on arrival. A conditioning-present byte other than 0 is
taken with the part present (R184). -/
def RunCard.ofWire (c : WireCard) : RunCard where
  departure := if c.departure.toNat = 65535 then 65535 else min c.departure.toNat 1440
  eroute := c.eroute.toNat
  conditioning :=
    if c.conditioningPresent = 0 ∨ c.tcond.toNat = 0 then none
    else some { pcond := c.pcond.toNat, tcond := min c.tcond.toNat 60 }

/-! ## Power stage port -/

/-- A REPORT payload (10.7). -/
def reportPayloadOf : List Byte → Option WireReport
  | [p0, p1, state, temperature] =>
    some { power := wordOfBytes p0 p1, state := state, temperature := temperature }
  | _ => none

/-- The REPORT a frame of the power stage port is; none for a bad CRC, an unknown kind or a wrong length (R153). -/
def reportOf (frame : List Byte) : Option WireReport :=
  match unsealFrame frame with
  | some (kind :: payload) => if kind = 0x32 then reportPayloadOf payload else none
  | _ => none

/-! ## Depot link -/

/-- What a reception of the depot link is found to be (R77). -/
inductive Reception where
  | crcError
  | malformed
  | announce (frame : WireAnnounce)
  | shed (frame : WireShed)
  deriving DecidableEq, Repr

/-- An ANNOUNCE payload (10.5). -/
def announceOf : List Byte → Option WireAnnounce
  | [station, role, flags, readiness, urgency, c0, c1, h0, h1, d0, d1, u0, u1, n0, n1, o0, o1, l0, l1, f0, f1] =>
    some { station := station, role := role, flags := flags, readiness := readiness, urgency := urgency,
           claim := wordOfBytes c0 c1, held := wordOfBytes h0 h1, draw := wordOfBytes d0 d1,
           offerUp := wordOfBytes u0 u1, offerDown := wordOfBytes n0 n1, dischargeOffer := wordOfBytes o0 o1,
           lendable := wordOfBytes l0 l1, feederLoad := wordOfBytes f0 f1 }
  | _ => none

/-- A SHED payload (10.5). -/
def shedOf : List Byte → Option WireShed
  | [station, f0, f1] => some { station := station, fraction := wordOfBytes f0 f1 }
  | _ => none

/-- A station number within 1 to 32 (R77). -/
def stationInRange (b : Byte) : Bool := 1 ≤ b.toNat && b.toNat ≤ 32

/-- Step 2 of R77 for an ANNOUNCE: malformed by its station number or role, or valid. -/
def judgeAnnounce (f : WireAnnounce) : Reception :=
  if stationInRange f.station && (Role.ofByte f.role).isSome then .announce f else .malformed

/-- Step 2 of R77 for a SHED: malformed by its station number or shed fraction, or valid. -/
def judgeShed (f : WireShed) : Reception :=
  if stationInRange f.station && decide (1 ≤ f.fraction.toNat ∧ f.fraction.toNat ≤ 1024) then .shed f else .malformed

/-- The checks of R77 in their order. -/
def receptionOf (characters : List Byte) : Reception :=
  match unsealFrame characters with
  | none => .crcError
  | some [] => .malformed
  | some (kind :: payload) =>
    if kind = 0x01 then (announceOf payload).elim .malformed judgeAnnounce
    else if kind = 0x02 then (shedOf payload).elim .malformed judgeShed
    else .malformed

/-! ## Service port -/

/-- A request that is taken (R179). -/
inductive Request where
  | readItem (item index : Byte)
  | writeShadow (offset : Byte) (data : List Byte)
  | writeback
  | restart
  | looptestStart
  | looptestStop
  | attnRead
  | attnRearm
  deriving DecidableEq, Repr

/-- The request a code and its parameters name; none for an unknown code or a length that does not fit (R178, 10.9). -/
def requestNamed (code : Byte) (params : List Byte) : Option Request :=
  if code = 1 then match params with
    | [item, index] => some (.readItem item index)
    | _ => none
  else if code = 2 then match params with
    | offset :: data => some (.writeShadow offset data)
    | [] => none
  else if params ≠ [] then none
  else if code = 3 then some .writeback
  else if code = 4 then some .restart
  else if code = 5 then some .looptestStart
  else if code = 6 then some .looptestStop
  else if code = 7 then some .attnRead
  else if code = 8 then some .attnRearm
  else none

/-- The checks of R178 on the bytes of a request transfer: enough bytes for the length byte, a right CRC, a known code
and a fitting length. Bytes after the CRC are not read (assumption 6). -/
def requestOf : List Byte → Option Request
  | code :: n :: rest =>
    if rest.length < n.toNat + 2 then none
    else if bytesOfWord (crc16 (code :: n :: rest.take n.toNat)) ≠ (rest.drop n.toNat).take 2 then none
    else requestNamed code (rest.take n.toNat)
  | _ => none

/-- How many bytes a request's frame has (10.9): code, length, parameters, CRC. -/
def Request.frameLength : Request → Nat
  | .readItem _ _ => 6
  | .writeShadow _ data => 5 + data.length
  | .writeback => 4
  | .restart => 4
  | .looptestStart => 4
  | .looptestStop => 4
  | .attnRead => 4
  | .attnRearm => 4

end Sys2Proof.Machine
end

