-- ==== Sys2Proof/Machine/Image.lean ====
section
/-! DEFINITION. The configuration image: the structural checks of R170, the ranges of R171 and the working copy formed
from an image, with the byte positions of 10.8. -/

namespace Sys2Proof.Machine

/-- The structural checks 2 to 5 of R170 on an image, in their order: the load result of the first that fails. -/
def structuralError (m : Mem) : Option LoadResult :=
  if readByte m 0 ≠ 0xD3 ∨ readByte m 1 ≠ 0x5A ∨ readByte m 2 ≠ 1 then some .signature
  else if imageCrc m ≠ readWord m 254 then some .crc
  else if stationInRange (readByte m 3) = false then some .station
  else if Role.ofByte (readByte m 4) = none then some .role
  else none

/-- The one-byte field at an offset (10.8). -/
def field8 (m : Mem) (offset : Nat) : Nat := (readByte m offset).toNat

/-- The two-byte field at an offset (10.8). -/
def field16 (m : Mem) (offset : Nat) : Nat := (readWord m offset).toNat

/-- NOMF brought to an admitted value (R171). -/
def clampNomf (n : Nat) : Nat := if n ≤ 55 then 50 else 60

/-- The stored values of an image, before any clamping (10.8). -/
def storedCopy (m : Mem) : WorkingCopy where
  station := field8 m 3
  role := (Role.ofByte (readByte m 4)).getD .post
  protect := field8 m 5
  fcap := field16 m 16
  site := field16 m 18
  guard := field8 m 20
  isldiv := field8 m 21
  upcommit := field16 m 22
  dncommit := field16 m 24
  nomf := field8 m 26
  db := field16 m 27
  full := field16 m 29
  tann := field8 m 32
  ksil := field8 m 33
  tenure := field16 m 34
  shedhold := field8 m 36
  trip := field8 m 37
  ntrip := field8 m 38
  s2 := field16 m 48
  s3 := field16 m 50
  margin := field16 m 52
  target := field8 m 54
  lendguard := field16 m 55
  protectWindow := field8 m 57
  pdismax := field16 m 58
  prated := field16 m 64
  ramp := field16 m 66
  qstep := field8 m 68
  idle := field16 m 69
  derate := (List.range 16).map fun i => field16 m (96 + 2 * i)
  vwd := field16 m 71
  mask := readWord m 73

/-- Every field brought into its range (R171). S3 and FULL are clamped after S2 and DB, by the values of those as
already clamped. -/
def clampCopy (w : WorkingCopy) : WorkingCopy :=
  { w with
    protect := clampNat 0 16 w.protect
    guard := clampNat 0 100 w.guard
    isldiv := clampNat 1 32 w.isldiv
    nomf := clampNomf w.nomf
    db := clampNat 0 500 w.db
    full := clampNat (clampNat 0 500 w.db + 10) 1000 w.full
    tann := clampNat 10 100 w.tann
    ksil := clampNat 2 8 w.ksil
    tenure := clampNat 0 600 w.tenure
    shedhold := clampNat 1 60 w.shedhold
    trip := clampNat 0 200 w.trip
    ntrip := clampNat 1 20 w.ntrip
    s2 := clampNat 0 600 w.s2
    s3 := clampNat 0 (clampNat 0 600 w.s2) w.s3
    margin := clampNat 0 2000 w.margin
    target := clampNat 50 100 w.target
    lendguard := clampNat 0 2000 w.lendguard
    protectWindow := clampNat 0 240 w.protectWindow
    pdismax := clampNat 0 6000 w.pdismax
    prated := clampNat 0 6000 w.prated
    ramp := clampNat 1 1000 w.ramp
    qstep := clampNat 1 100 w.qstep
    idle := clampNat 10 600 w.idle
    derate := w.derate.map (clampNat 0 256)
    vwd := clampNat 200 2000 w.vwd }

/-- The working copy of an image (R171). -/
def formCopy (m : Mem) : WorkingCopy := clampCopy (storedCopy m)

/-- Whether forming the working copy clamps a field (R171). -/
def copyClamped (m : Mem) : Bool := decide (formCopy m ≠ storedCopy m)

end Sys2Proof.Machine
end

