-- ==== Sys2Proof/Machine/Blocks.lean ====
section
/-! DEFINITION. One update for each block of the state. Every operation of the model changes the state through these,
so that what an operation leaves alone is read off its text. -/

namespace Sys2Proof.Machine

/-- The state with its `vehicle` replaced. -/
def State.setVehicle (s : State) (x : VehicleLine) : State := { s with vehicle := x }

/-- The state with its `tracker` replaced. -/
def State.setTracker (s : State) (x : Tracker) : State := { s with tracker := x }

/-- The state with its `account` replaced. -/
def State.setAccount (s : State) (x : Account) : State := { s with account := x }

/-- The state with its `link` replaced. -/
def State.setLink (s : State) (x : Link) : State := { s with link := x }

/-- The state with its `peers` replaced. -/
def State.setPeers (s : State) (x : PeerTable) : State := { s with peers := x }

/-- The state with its `share` replaced. -/
def State.setShare (s : State) (x : Share) : State := { s with share := x }

/-- The state with its `reserve` replaced. -/
def State.setReserve (s : State) (x : Reserve) : State := { s with reserve := x }

/-- The state with its `composer` replaced. -/
def State.setComposer (s : State) (x : Composer) : State := { s with composer := x }

/-- The state with its `store` replaced. -/
def State.setStore (s : State) (x : Store) : State := { s with store := x }

/-- The state with its `service` replaced. -/
def State.setService (s : State) (x : Service) : State := { s with service := x }

/-- The state with its `clock` replaced. -/
def State.setClock (s : State) (x : Nat) : State := { s with clock := x }

/-- The state with its `freeDraws` replaced. -/
def State.setFreeDraws (s : State) (x : Nat) : State := { s with freeDraws := x }

/-- The state with its `pending` replaced. -/
def State.setPending (s : State) (x : List Instr) : State := { s with pending := x }

end Sys2Proof.Machine
end

