-- ==== Sys2Proof/Machine/Timebase.lean ====
section
/-! DEFINITION. The part's timebase: what the passing of time does to every running timer, to the ages of the peer
entries, to the idle time of the depot link and to the clock (R2, R66, R87). Assumptions 2 and 3. -/

namespace Sys2Proof.Machine

/-- `n` ms, in the µs that the timers count. -/
def millis (n : Nat) : Nat := n * 1000

/-- The whole ms of a time in µs, rounded down (R1). -/
def wholeMillis (time : Nat) : Nat := time / 1000

/-- The HELLO reply time of R8, in µs. -/
def helloReplyTime : Nat := millis 2000

/-- The minute of R29, in µs. -/
def minuteTime : Nat := millis 60000

/-- The return window of R23, in µs. -/
def returnWindowTime : Nat := millis 5

/-- The edge timeout of R133, in µs. -/
def edgeTimeoutTime : Nat := millis 50

/-- The wake limit of R160, in µs. -/
def wakeLimit : Nat := millis 10000

/-- T_ann in ms (R69): the working copy holds it in 10 ms (R171). -/
def WorkingCopy.announceTime (w : WorkingCopy) : Nat := w.tann * 10

/-- T_sil in µs (R69): the listen period and the lifetime of a peer entry (R87). -/
def WorkingCopy.silentTime (w : WorkingCopy) : Nat := millis (w.ksil * w.announceTime)

/-- T_sil of the present working copy, in µs; 0 without one, when the peer table is empty (R99). -/
def State.silentTime (s : State) : Nat := s.store.working.elim 0 WorkingCopy.silentTime

/-- A running timer with `n` µs passed; it stands at 0 until its expiry is taken. A stopped timer stays stopped. -/
def runDown (n : Nat) (timer : Option Nat) : Option Nat := timer.map (· - n)

/-- A timer has run out: its expiry is due (assumption 3). -/
def due (timer : Option Nat) : Bool := timer == some 0

/-- The idle time at which the line of the depot link is idle, in µs (R66). -/
def lineIdle : Nat := 40

/-- The receiver when `n` µs have passed: a deaf one counts those in which the station does not drive the line, and the
instant at which an own frame started is over once time passes (R77, R79, assumption 27). -/
def Link.receiverAfter (n : Nat) (k : Link) : Receiver :=
  match k.receiver with
  | .hearing => .hearing
  | .ending => if k.transmitting ≠ none ∧ 0 < n then .deaf 0 else .ending
  | .deaf quiet => if k.transmitting = none then .deaf (quiet + n) else .deaf quiet

/-- `n` µs pass without activity of another station: the idle time runs unless the station itself drives the line
(R66). -/
def Link.quiet (n : Nat) (k : Link) : Link :=
  { k with
    idleTime := if k.transmitting = none then k.idleTime + n else k.idleTime
    receiver := k.receiverAfter n }

/-- An entry `n` µs older. Its age stands at T_sil until its removal is taken (R87). -/
def Peer.older (n silent : Nat) (p : Peer) : Peer := { p with age := min (p.age + n) (max p.age silent) }

/-- `n` µs are counted, by each timer from its own start: every running timer runs down, the wake timer counts up to its
limit and the ages rise. Nothing else happens: an expiry is a command of its own. -/
def State.countDown (n : Nat) (s : State) : State where
  vehicle :=
    { s.vehicle with
      helloTimer := runDown n s.vehicle.helloTimer
      watchdog := runDown n s.vehicle.watchdog
      loopWindow := runDown n s.vehicle.loopWindow }
  tracker := { s.tracker with minuteTimer := runDown n s.tracker.minuteTimer }
  account := s.account
  link :=
    { s.link with listenTimer := runDown n s.link.listenTimer, announceTimer := runDown n s.link.announceTimer }
  peers := { s.peers with entries := s.peers.entries.map (Peer.older n s.silentTime) }
  share := { s.share with shedTimer := runDown n s.share.shedTimer }
  reserve := { s.reserve with edgeTimeout := runDown n s.reserve.edgeTimeout }
  composer := { s.composer with wakeTimer := s.composer.wakeTimer.map fun e => min (e + n) (max e wakeLimit) }
  store := s.store
  service := s.service
  clock := s.clock
  freeDraws := s.freeDraws
  pending := s.pending

/-- `n` µs of the part's timebase pass: the clock, the idle time of the depot link, the timers and the ages count each
of them (R2, R66). -/
def State.elapse (n : Nat) (s : State) : State :=
  ((s.countDown n).setLink ((s.countDown n).link.quiet n)).setClock (s.clock + n)

/-- `n` ms of the part's timebase pass. -/
def State.advance (n : Nat) (s : State) : State := s.elapse (millis n)

/-- One tick of the timebase: 1 µs passes. It is what a step does when no command waits (assumption 2). -/
def State.tick (s : State) : State := s.elapse 1

end Sys2Proof.Machine
end

