-- ==== Sys2Proof/Machine/Flags.lean ====
section
/-! DEFINITION. The part's flags: attention causes and the attention line (R181, R182), the conditions read from the
last STATUS (R15), the flags of ANNOUNCE (R71) and the conditions on role and station state the rules share. -/

namespace Sys2Proof.Machine

/-! ## Role, station and session -/

/-- The role of the working copy; none while there is no working copy (10.10). -/
def State.role (s : State) : Option Role := s.store.working.map WorkingCopy.role

/-- The working copy says POST. -/
def State.isPost (s : State) : Bool := s.role == some .post

/-- The working copy says METER. -/
def State.isMeter (s : State) : Bool := s.role == some .meter

/-- The own station number; 0 while there is no working copy (R68, 10.10). -/
def State.stationNumber (s : State) : Nat := s.store.working.elim 0 WorkingCopy.station

/-- LISTENING, RUNNING or CLASH: the states in which the composer acts, sensed faults are evaluated, entries age and
measurements are taken (R16, R87, R132, R152). -/
def Station.active : Station → Bool
  | .listening => true
  | .running => true
  | .clash => true
  | .loading => false
  | .unconfigured => false

/-- The linked states (2.4). -/
def Readiness.linked : Readiness → Bool
  | .unplanned => true
  | .charging => true
  | .atRisk => true
  | .topped => true
  | .conditioning => true
  | .due => true
  | .vacant => false
  | .linking => false
  | .halted => false

/-- The effective protect count (R169). -/
def State.protectCount (s : State) : Nat := s.store.working.elim 0 WorkingCopy.protect

/-- A loop test runs (R23). -/
def State.loopRunning (s : State) : Bool := s.vehicle.loopResult == .running

/-! ## The last STATUS (R13, R15) -/

/-- Bit 0 of the STATUS flags: accepting energy (10.6). -/
def statusAccepts (t : WireStatus) : Bool := t.flags.getLsbD 0

/-- Bit 1 of the STATUS flags: contactor closed (10.6). -/
def statusContactor (t : WireStatus) : Bool := t.flags.getLsbD 1

/-- Bit 2 of the STATUS flags: vehicle fault (10.6). -/
def statusFault (t : WireStatus) : Bool := t.flags.getLsbD 2

/-- The vehicle is accepting (R15). -/
def State.accepting (s : State) : Bool :=
  s.tracker.readiness.linked && s.vehicle.pilot == .energy
    && s.vehicle.lastStatus.any fun t => statusAccepts t && statusContactor t

/-- Pvmax as supplied: 0 while there is no last STATUS (R15). -/
def State.pvmax (s : State) : Nat := s.vehicle.lastStatus.elim 0 fun t => t.pvmax.toNat

/-- Pvdis as supplied: 0 while there is no last STATUS (R15). -/
def State.pvdis (s : State) : Nat := s.vehicle.lastStatus.elim 0 fun t => t.pvdis.toNat

/-- Ecap as supplied: 0 while there is no last STATUS (R15). -/
def State.ecap (s : State) : Nat := s.vehicle.lastStatus.elim 0 fun t => t.ecap.toNat

/-- Eveh as supplied: absent while there is no last STATUS (R15). -/
def State.eveh (s : State) : Option Nat := s.vehicle.lastStatus.map fun t => t.eveh.toNat

/-! ## Attention (R181, R182) -/

/-- The bit of a cause in the pending set and in the mask (10.8, 10.9). -/
def Cause.bit : Cause → Nat
  | .atRiskEntered => 0
  | .halted => 1
  | .clash => 2
  | .unconfigured => 3
  | .configClamped => 4
  | .reserveShort => 5
  | .aloneEntered => 6
  | .shedHeard => 7
  | .mainsLost => 8
  | .writebackDone => 9
  | .writebackFailed => 10
  | .looptestDone => 11

/-- The pending set with a cause's flag set (R181). -/
def withCause (c : Cause) (set : BitVec 12) : BitVec 12 := set ||| BitVec.twoPow 12 c.bit

/-- A cause is raised: its flag in the pending set is set (R181). -/
def raise (c : Cause) (s : State) : State :=
  s.setService { s.service with pendingCauses := withCause c s.service.pendingCauses }

/-- The causes that are unmasked: those of the working copy's mask, and every cause while there is none (R181). -/
def State.unmasked (s : State) : BitVec 12 := s.store.working.elim (BitVec.allOnes 12) fun w => w.mask.setWidth 12

/-- The attention line is asserted: only while armed and an unmasked cause is pending (R182). It is driven from the
state at once, so it is a function of the state. -/
def State.attention (s : State) : Bool := s.service.armed && decide (s.service.pendingCauses &&& s.unmasked ≠ 0)

/-! ## The flags of ANNOUNCE (R71, R72, 10.5) -/

/-- The flags byte of ANNOUNCE: vehicle present, halted, alone, shed-hold, reserve short in bits 0 to 4 (10.5). -/
def flagsByte (present halted alone shedHold short : Bool) : Byte :=
  BitVec.ofNat 8 (present.toNat + 2 * halted.toNat + 4 * alone.toNat + 8 * shedHold.toNat + 16 * short.toNat)

end Sys2Proof.Machine
end

