-- ==== Sys2Proof/Machine/Lending.lean ====
section
/-! DEFINITION. The energy account's operations: integration, the estimate, reconciliation, lendable energy and the
discharge offer (Chapter 3). -/

namespace Sys2Proof.Machine

/-- The units of 10 J in 0.1 kWh (R50). -/
def transferUnits : Nat := 36000

/-- The signed accumulator takes one measured power (R52). -/
def integrateDelta (p : Int) (a : Account) : Account :=
  if (transferUnits : Int) ≤ a.deltaResidue + p then
    { a with delta := min (a.delta + 1) 32767, deltaResidue := a.deltaResidue + p - transferUnits }
  else if a.deltaResidue + p ≤ -(transferUnits : Int) then
    { a with delta := max (a.delta - 1) (-32767), deltaResidue := a.deltaResidue + p + transferUnits }
  else { a with deltaResidue := a.deltaResidue + p }

/-- The accumulator of energy into the vehicle takes one measured power (R53). -/
def integrateIn (p : Int) (a : Account) : Account :=
  if transferUnits ≤ a.inResidue + p.toNat then
    { a with energyIn := bump 65535 a.energyIn, inResidue := a.inResidue + p.toNat - transferUnits }
  else { a with inResidue := a.inResidue + p.toNat }

/-- The accumulator of energy out of the vehicle takes one measured power (R53). -/
def integrateOut (p : Int) (a : Account) : Account :=
  if transferUnits ≤ a.outResidue + (-p).toNat then
    { a with energyOut := bump 65535 a.energyOut, outResidue := a.outResidue + (-p).toNat - transferUnits }
  else { a with outResidue := a.outResidue + (-p).toNat }

/-- The three accumulators take one measured power together (3.2). -/
def integrate (p : Int) (a : Account) : Account := integrateOut p (integrateIn p (integrateDelta p a))

/-- The energy estimate: Eveh + delta, clamped to 0 to Ecap (R54). -/
def estimate (t : WireStatus) (delta : Int) : Nat := (clampInt 0 t.ecap.toNat (t.eveh.toNat + delta)).toNat

/-- The account recomputes Enow (R54). -/
def updateEstimate (s : State) : State :=
  s.setAccount { s.account with enow := s.vehicle.lastStatus.map fun t => estimate t s.account.delta }

/-- The gate and L of R57, from the readiness state, the countdown, Efloor and Enow. -/
def lendingOf (readiness : Readiness) (countdown efloor enow window guard : Nat) : LendingGate × Nat :=
  if readiness ≠ .topped then (.notTopped, 0)
  else if countdown ≤ window then (.inWindow, 0)
  else if enow ≤ efloor + guard then (.belowGuard, 0)
  else (.isOpen, enow - efloor - guard)

/-- The gate and L of the present state (R57). Without a working copy there is no TOPPED session. -/
def State.lending (s : State) : LendingGate × Nat :=
  match s.store.working, s.account.enow, s.tracker.derived with
  | some w, some enow, some d =>
    lendingOf s.tracker.readiness (s.tracker.countdown.getD 0) d.efloor enow w.protectWindow w.lendguard
  | _, _, _ => (.notTopped, 0)

/-- The discharge offer for an L (R60). -/
def State.offerFor (s : State) (lendable : Nat) : Nat :=
  if 0 < lendable then min s.pvdis (s.store.working.elim 0 WorkingCopy.pdismax) else 0

/-- The account recomputes L, the lending gate and the discharge offer, together (R58). -/
def updateLending (s : State) : State :=
  s.setAccount
    { s.account with gate := s.lending.1, lendable := s.lending.2, offer := s.offerFor s.lending.2 }

/-- The account reconciles on an accepted STATUS (R55). -/
def reconcile (s : State) : State :=
  updateLending (updateEstimate (s.setAccount { s.account with delta := 0, deltaResidue := 0 }))

/-- The composer hands over one measured power (R51). -/
def handOver (p : Int) (s : State) : State :=
  if s.isPost && s.vehicle.sessionOpen then
    updateLending (updateEstimate (s.setAccount (integrate p s.account)))
  else s

end Sys2Proof.Machine
end

