-- ==== Sys2Proof/Machine/Peers.lean ====
section
/-! DEFINITION. The peer table's operations: storing an ANNOUNCE, removal, the governing meter and the sums over the
depot (Chapter 5). -/

namespace Sys2Proof.Machine

/-- The entry an ANNOUNCE gives: its fields as sent, held sanitised to the claim, age 0 (R86). Undefined flag bits
are ignored (R184). -/
def Peer.ofAnnounce (f : WireAnnounce) : Peer where
  station := f.station.toNat
  role := (Role.ofByte f.role).getD .post
  flags := f.flags &&& 0x1F
  readiness := f.readiness.toNat
  urgency := f.urgency.toNat
  claim := f.claim.toNat
  held := min f.held.toNat f.claim.toNat
  draw := f.draw.toInt
  offerUp := f.offerUp.toNat
  offerDown := f.offerDown.toNat
  dischargeOffer := f.dischargeOffer.toNat
  lendable := f.lendable.toNat
  feederLoad := f.feederLoad.toNat
  age := 0

/-- Storing an entry: it replaces the entry of its station whole, or takes its place in ascending order (R86, R89). -/
def putPeer (p : Peer) : List Peer → List Peer
  | [] => [p]
  | q :: rest =>
    if q.station < p.station then q :: putPeer p rest
    else if q.station = p.station then p :: rest
    else p :: q :: rest

/-- Removing the entry of a station (R87). -/
def dropPeer (n : Nat) (entries : List Peer) : List Peer := entries.filter fun p => p.station ≠ n

/-- The governing meter: the METER entry with the lowest station number (R90). -/
def governingMeter (entries : List Peer) : Option Peer := entries.find? fun p => p.role == .meter

/-- The table is handed a valid ANNOUNCE: it stores it, and a creation ends ALONE (R86, R93). -/
def storeAnnounce (f : WireAnnounce) (s : State) : State :=
  s.setPeers { s.peers with entries := putPeer (Peer.ofAnnounce f) s.peers.entries, alone := false }

/-- What one post adds to the sums (R94). -/
structure Contribution where
  urgency : Nat
  claim : Nat
  held : Nat
  draw : Int
  offerUp : Nat
  offerDown : Nat
  dischargeOffer : Nat
  deriving DecidableEq, Repr

/-- The contribution of an entry, its fields as stored (R94). -/
def Peer.contribution (p : Peer) : Contribution where
  urgency := p.urgency
  claim := p.claim
  held := p.held
  draw := p.draw
  offerUp := p.offerUp
  offerDown := p.offerDown
  dischargeOffer := p.dischargeOffer

/-- The station's own contribution, as its blocks hold it; in the METER role every own value is 0 (R94). -/
def State.ownContribution (s : State) : Contribution :=
  if s.isPost then
    { urgency := s.tracker.urgency, claim := s.tracker.claim, held := s.share.held, draw := s.composer.draw,
      offerUp := s.reserve.offerUp, offerDown := s.reserve.offerDown, dischargeOffer := s.account.offer }
  else
    { urgency := 0, claim := 0, held := 0, draw := 0, offerUp := 0, offerDown := 0, dischargeOffer := 0 }

/-- The contributions of the POST entries (R94). -/
def State.peerContributions (s : State) : List Contribution :=
  (s.peers.entries.filter fun p => p.role == .post).map Peer.contribution

/-- Every contribution, the own one first (R94). -/
def State.contributions (s : State) : List Contribution := s.ownContribution :: s.peerContributions

/-- The part of a contribution that lies in a tier: the held part in tier 2u + 1, the unheld part in tier 2u, an
urgency above 3 taken as 3 (R95, R184). -/
def tierPart (tier : Nat) (c : Contribution) : Nat :=
  if tier = 2 * min c.urgency 3 + 1 then c.held
  else if tier = 2 * min c.urgency 3 then c.claim - c.held
  else 0

/-- The demand of a tier (R95). -/
def tierDemand (tier : Nat) (cs : List Contribution) : Nat := (cs.map (tierPart tier)).sum

/-- The total post draw D (R96). -/
def totalDraw (cs : List Contribution) : Int := (cs.map Contribution.draw).sum

/-- The total positive post draw Dpos (R96). -/
def positiveDraw (cs : List Contribution) : Nat := (cs.map fun c => c.draw.toNat).sum

/-- The total reserve offer up (R97). -/
def totalOfferUp (cs : List Contribution) : Nat := (cs.map Contribution.offerUp).sum

/-- The total reserve offer down (R97). -/
def totalOfferDown (cs : List Contribution) : Nat := (cs.map Contribution.offerDown).sum

/-- The total discharge offer (R97). -/
def totalDischarge (cs : List Contribution) : Nat := (cs.map Contribution.dischargeOffer).sum

end Sys2Proof.Machine
end

