-- ==== Sys2Proof/Machine/Sharing.lean ====
section
/-! DEFINITION. The share engine's operations: the budget, the tiers, tenure, claim drops, overdraw discharge, sheds
and overload detection (Chapter 6). -/

namespace Sys2Proof.Machine

/-! ## Budget (R105, R106) -/

/-- The guard g (R105). -/
def guardOf (w : WorkingCopy) : Nat := w.fcap * w.guard / 1000

/-- The site load S: from the governing meter's load M and the total draw D, or SITE with no meter heard (R105). -/
def siteLoadOf (w : WorkingCopy) (load : Option Nat) (draw : Int) : Nat :=
  load.elim w.site fun m => ((m : Int) - draw).toNat

/-- The raw headroom (R106). -/
def headroomOf (w : WorkingCopy) (siteLoad : Nat) : Int := (w.fcap : Int) - siteLoad - guardOf w

/-- The budget figures of an allocation (R105, R106). -/
def budgetOf (w : WorkingCopy) (meter : Option Peer) (draw : Int) : Budget where
  guard := guardOf w
  meter := meter.map Peer.station
  feederLoad := meter.map Peer.feederLoad
  totalDraw := draw
  siteLoad := siteLoadOf w (meter.map Peer.feederLoad) draw
  headroom := headroomOf w (siteLoadOf w (meter.map Peer.feederLoad) draw)
  budget := (headroomOf w (siteLoadOf w (meter.map Peer.feederLoad) draw) - w.upcommit).toNat
  overdraw := (-headroomOf w (siteLoadOf w (meter.map Peer.feederLoad) draw)).toNat

/-! ## Tiers (R107, R108) -/

/-- A tier as it is served: its demand and what remains of the budget when its turn comes (R107). -/
structure TierService where
  tier : Nat
  demand : Nat
  available : Nat
  deriving DecidableEq, Repr

/-- The tiers served in turn from a budget (R107). A tier that fits is served whole; the first that does not fit takes
all that remains. -/
def serveTiers (cs : List Contribution) : List Nat → Nat → List TierService
  | [], _ => []
  | t :: rest, r =>
    { tier := t, demand := tierDemand t cs, available := r }
      :: serveTiers cs rest (if tierDemand t cs ≤ r then r - tierDemand t cs else 0)

/-- The tiers from 7 down to 0. -/
def tierOrder : List Nat := [7, 6, 5, 4, 3, 2, 1, 0]

/-- The grant to a part in a tier: whole when the demand fits, in proportion otherwise (R107). -/
def grantOf (v : TierService) (part : Nat) : Nat :=
  if v.demand ≤ v.available then part else part * v.available / v.demand

/-- What a contribution is granted over all tiers (R108). -/
def allowanceOf (services : List TierService) (c : Contribution) : Nat :=
  (services.map fun v => grantOf v (tierPart v.tier c)).sum

/-- The allocation is contested: some tier's demand exceeds what remains (R107). -/
def contestedOf (services : List TierService) : Bool := services.any fun v => v.available < v.demand

/-- The island allowance (R110). -/
def islandAllowance (w : WorkingCopy) (claim : Nat) : Nat :=
  min claim ((((w.fcap : Int) - w.site - guardOf w - w.upcommit) / (w.isldiv : Int)).toNat)

/-- The allowance limited to the shed cap while shed-hold is ON (R109). -/
def capped (sh : Share) (computed : Nat) : Nat := if sh.shedHold then min computed sh.shedCap else computed

/-! ## Tenure (R111 to R113) -/

/-- Tenure ends: H becomes 0, tenure OFF, T_left no longer kept. -/
def endTenure (sh : Share) : Share := { sh with tenure := false, held := 0, tenureLeft := 0 }

/-- A is set, and H follows it down; tenure ends when H becomes 0 (R113). -/
def setAllowance (a : Nat) (sh : Share) : Share :=
  if min sh.held a = 0 then { endTenure sh with allowance := a } else { sh with allowance := a, held := min sh.held a }

/-- T_left after this allocation: it runs in contested allocations only (R112). -/
def countedDown (sh : Share) (contested : Bool) (interval : Nat) : Int :=
  if contested then sh.tenureLeft - interval else sh.tenureLeft

/-- The tenure update of an allocation that fixes A at `a` (R111, R112, R113). `sh` is the share engine before it, so
that its allowance is the previous allowance. -/
def updateTenure (w : WorkingCopy) (alone contested : Bool) (interval a : Nat) (sh : Share) : Share :=
  if alone then { endTenure sh with allowance := a }
  else if sh.tenure then
    if countedDown sh contested interval ≤ 0 then { endTenure sh with allowance := a }
    else setAllowance a { sh with tenureLeft := countedDown sh contested interval }
  else if 0 < w.tenure ∧ sh.allowance < a then
    { sh with allowance := a, held := a, tenure := true, tenureLeft := (w.tenure : Int) * 1000 }
  else setAllowance a sh

/-! ## Overdraw discharge (R115) -/

/-- The overdraw discharge request Q, from the site overdraw, the own offer and the total offer (R115). -/
def dischargeOf (overdraw own total : Nat) : Nat :=
  if 0 < overdraw ∧ 0 < own then min own (ceilDiv (overdraw * own) total) else 0

/-! ## The allocation event (R102, R103) -/

/-- The interval of an allocation taken now, in whole ms (R104). -/
def State.allocationInterval (s : State) : Nat := (s.clock - s.share.lastAllocation.getD s.clock) / 1000

/-- The governing meter an allocation uses: none while ALONE holds (R110). -/
def State.meterHeard (s : State) : Option Peer := if s.peers.alone then none else governingMeter s.peers.entries

/-- The budget of an allocation taken now (R105, R106). -/
def State.budgetNow (s : State) (w : WorkingCopy) : Budget :=
  budgetOf w s.meterHeard (totalDraw s.contributions)

/-- The tiers of an allocation taken now (R107). -/
def State.tiersNow (s : State) (w : WorkingCopy) : List TierService :=
  serveTiers s.contributions tierOrder (s.budgetNow w).budget

/-- The allowance before the shed cap (R108, R110). -/
def State.computedAllowance (s : State) (w : WorkingCopy) : Nat :=
  if s.peers.alone then islandAllowance w s.tracker.claim
  else allowanceOf (s.tiersNow w) s.ownContribution

/-- Whether an allocation taken now is contested (R107, R110). -/
def State.contestedNow (s : State) (w : WorkingCopy) : Bool := !s.peers.alone && contestedOf (s.tiersNow w)

/-- The share engine after an allocation in the POST role, in RUNNING (R103). -/
def State.allocated (s : State) (w : WorkingCopy) : Share :=
  { updateTenure w s.peers.alone (s.contestedNow w) s.allocationInterval
      (capped s.share (s.computedAllowance w)) s.share with
    discharge := dischargeOf (s.budgetNow w).overdraw s.account.offer (totalDischarge s.contributions)
    budget := some (s.budgetNow w)
    contested := s.contestedNow w
    interval := s.allocationInterval
    lastAllocation := some s.clock }

/-- The share engine takes an allocation event (R102). -/
def allocateShare (s : State) : State :=
  match s.store.working with
  | some w =>
    if w.role = .post then
      if s.link.station = .running then s.setShare (s.allocated w)
      else s.setShare { endTenure s.share with allowance := 0, discharge := 0, budget := none }
    else s
  | none => s

/-! ## Claim drops, sheds and changes of state -/

/-- The share engine is handed a claim (R114). -/
def claimHanded (s : State) : State :=
  if s.tracker.claim < s.share.allowance then s.setShare (setAllowance s.tracker.claim s.share) else s

/-- Shed-hold starts anew with a cap (R122, R123). -/
def startShedHold (w : WorkingCopy) (cap : Nat) (sh : Share) : Share :=
  { sh with shedCap := cap, shedHold := true, shedTimer := some (millis (w.shedhold * 1000)) }

/-- The allowance a shed leaves (R122). -/
def shedCut (a fraction : Nat) : Nat := a * (1024 - fraction) / 1024

/-- The share engine is handed a station state other than RUNNING (R116, R121). -/
def leaveRunningShare (sh : Share) : Share :=
  { endTenure sh with
    allowance := 0, discharge := 0, budget := none, contested := false, overloadCount := 0, shedding := false }

/-! ## Overload detection (R119, R120) -/

/-- A feeder sample lies above the trip level (R119). -/
def aboveTrip (w : WorkingCopy) (m : Int) : Bool := (w.fcap : Int) * (1000 + w.trip) < m * 1000

/-- The shed fraction for an excess over FCAP and a positive draw (R120). -/
def shedFraction (excess dpos : Nat) : Nat := min 1024 (max 1 (ceilDiv (excess * 1024) dpos))

/-- The overload count and the shedding flag after the count of a sample (R119). A meter that sheds does not count. -/
def countSample (w : WorkingCopy) (m : Int) (sh : Share) : Share :=
  if sh.shedding then sh
  else if aboveTrip w m then
    { sh with overloadCount := min (sh.overloadCount + 1) w.ntrip, shedding := w.ntrip ≤ sh.overloadCount + 1 }
  else { sh with overloadCount := 0 }

end Sys2Proof.Machine
end

