-- ==== Sys2Proof/Machine/Frequency.lean ====
section
/-! DEFINITION. The reserve unit's operations: judging a measurement, the reserve states, the droop, the offers and the
shares (Chapter 7). -/

namespace Sys2Proof.Machine

/-! ## Measurement (R132, R134) -/

/-- The cycle count Nc of a measurement (R132). -/
def cycleCount (w : WorkingCopy) : Nat := if w.nomf = 50 then 5 else 6

/-- The nominal frequency in mHz. -/
def nominal (w : WorkingCopy) : Nat := w.nomf * 1000

/-- The frequency of a period sum, rounded to nearest, a half up; none for a sum of 0 (R134). -/
def frequencyOf (cycles sum : Nat) : Option Nat :=
  if sum = 0 then none else some ((2 * cycles * 1000000000 + sum) / (2 * sum))

/-- A measurement is plausible: it has a frequency within 5 Hz of the nominal one (R134). -/
def plausibleOf (w : WorkingCopy) (f : Option Nat) : Bool :=
  f.any fun f => decide (nominal w ≤ f + 5000 ∧ f ≤ nominal w + 5000)

/-- The deviation of a frequency (R134). -/
def deviationOf (w : WorkingCopy) (f : Nat) : Int := (f : Int) - nominal w

/-! ## Droop (R140, R141) -/

/-- The active deviation of a history of three (R140). -/
def activeOf (w : WorkingCopy) : List Int → Int
  | [a, b, c] =>
    if (w.db : Int) < a ∧ (w.db : Int) < b ∧ (w.db : Int) < c then min a (min b c)
    else if a < -(w.db : Int) ∧ b < -(w.db : Int) ∧ c < -(w.db : Int) then max a (max b c)
    else 0
  | _ => 0

/-- The droop fraction of an active deviation (R141). -/
def droopOf (w : WorkingCopy) (active : Int) : Nat :=
  if active.natAbs ≤ w.db then 0 else min 1024 ((active.natAbs - w.db) * 1024 / (w.full - w.db))

/-- The response of an active deviation, a droop fraction and the two shares (R146). -/
def responseOf (active : Int) (droop up down : Nat) : Int :=
  if active < 0 then -((down * droop / 1024 : Nat) : Int)
  else if 0 < active then ((up * droop / 1024 : Nat) : Int)
  else 0

/-- The unit responds: POST role, RUNNING (R146). -/
def State.responds (s : State) : Bool := s.isPost && s.link.station == .running

/-- In MEASURING the active deviation, the droop fraction and the response are recomputed from the history (R136). -/
def measured (w : WorkingCopy) (responds : Bool) (r : Reserve) : Reserve :=
  { r with
    active := activeOf w r.history
    droop := droopOf w (activeOf w r.history)
    response :=
      if responds then responseOf (activeOf w r.history) (droopOf w (activeOf w r.history)) r.upShare r.downShare
      else 0 }

/-- A plausible measurement in STARTING or MEASURING (R136). -/
def takePlausible (w : WorkingCopy) (responds : Bool) (d : Int) (r : Reserve) : Reserve :=
  if r.state = .measuring ∨ 3 ≤ (joinThree d r.history).length then
    measured w responds { r with implausibleCount := 0, history := joinThree d r.history, state := .measuring }
  else { r with implausibleCount := 0, history := joinThree d r.history }

/-- The unit after the entry to MAINS_LOST (R138). -/
def loseMains (r : Reserve) : Reserve :=
  { r with
    history := [], recoveryCount := 0, active := 0, droop := 0, response := 0, offerUp := 0, offerDown := 0,
    upShare := 0, downShare := 0, state := .mainsLost }

/-- A plausible measurement in MAINS_LOST (R139). -/
def recoverPlausible (w : WorkingCopy) (responds : Bool) (d : Int) (r : Reserve) : Reserve :=
  if 3 ≤ r.recoveryCount + 1 then
    measured w responds
      { r with implausibleCount := 0, history := joinThree d r.history, recoveryCount := 3, state := .measuring }
  else { r with implausibleCount := 0, history := joinThree d r.history, recoveryCount := r.recoveryCount + 1 }

/-- An implausible measurement in MAINS_LOST (R139). -/
def recoverImplausible (r : Reserve) : Reserve :=
  { r with implausibleCount := bump 255 r.implausibleCount, history := [], recoveryCount := 0 }

/-- A plausible measurement with this deviation, by the reserve state (R134). -/
def judgedPlausible (w : WorkingCopy) (d : Int) (s : State) : State :=
  match s.reserve.state with
  | .disabled => s
  | .starting => s.setReserve (takePlausible w s.responds d s.reserve)
  | .measuring => s.setReserve (takePlausible w s.responds d s.reserve)
  | .mainsLost => s.setReserve (recoverPlausible w s.responds d s.reserve)

/-- An implausible measurement in STARTING or MEASURING: the tenth in a row brings MAINS_LOST (R137, R138). -/
def takeImplausible (s : State) : State :=
  if 10 ≤ bump 255 s.reserve.implausibleCount then
    raise .mainsLost
      (s.setReserve (loseMains { s.reserve with implausibleCount := bump 255 s.reserve.implausibleCount }))
  else s.setReserve { s.reserve with implausibleCount := bump 255 s.reserve.implausibleCount }

/-- An implausible measurement, by the reserve state (R134). -/
def judgedImplausible (s : State) : State :=
  match s.reserve.state with
  | .disabled => s
  | .starting => takeImplausible s
  | .measuring => takeImplausible s
  | .mainsLost => s.setReserve (recoverImplausible s.reserve)

/-- A measurement is judged: its frequency is stored with its mark, and it is taken by the reserve state (R134). -/
def judgeMeasurement (w : WorkingCopy) (f : Option Nat) (s : State) : State :=
  if plausibleOf w f then
    judgedPlausible w (deviationOf w (f.getD 0))
      (s.setReserve { s.reserve with lastFrequency := f, plausible := true })
  else judgedImplausible (s.setReserve { s.reserve with lastFrequency := f, plausible := false })

/-! ## Offers and shares (R142 to R145) -/

/-- The response lowered to the shares, keeping its sign (R145). -/
def lowerResponse (r : Reserve) : Reserve :=
  { r with response := clampInt (-(r.downShare : Int)) r.upShare r.response }

/-- Each share lowered to a bound, and the response with it (R145). -/
def lowerShares (up down : Nat) (r : Reserve) : Reserve :=
  lowerResponse { r with upShare := min r.upShare up, downShare := min r.downShare down }

/-- The upper clamp as it stands: min(Pvmax, Pderated) while the vehicle is accepting, 0 otherwise (R142, R157). DEDUCED:
R142's gloss is worked out afresh from the values of this moment, and the clamp that the composer holds from the latest
control period (R152) is not read (assumption 39). -/
def State.upperClamp (s : State) : Nat := if s.accepting then min s.pvmax s.composer.pderated else 0

/-- The unit offers: POST role, RUNNING, and neither DISABLED nor MAINS_LOST (R142). -/
def State.offers (s : State) : Bool :=
  s.responds && s.reserve.state != .disabled && s.reserve.state != .mainsLost

/-- Offer up (R142). -/
def State.offerUpNow (s : State) : Nat :=
  if s.offers && s.accepting && s.account.enow.any fun e => decide (e < s.ecap) then
    ((s.upperClamp : Int) - s.composer.draw).toNat
  else 0

/-- Offer down (R142). -/
def State.offerDownNow (s : State) : Nat := if s.offers then s.composer.draw.toNat + s.account.offer else 0

/-- The unit computes its offers, and lowers each share to the offer just computed (R142, R145). -/
def computeOffers (s : State) : State :=
  s.setReserve
    (lowerShares s.offerUpNow s.offerDownNow
      { s.reserve with offerUp := s.offerUpNow, offerDown := s.offerDownNow })

/-- The share of one direction and its shortfall flag, from the commitment, the island divisor, whether ALONE holds,
the own offer and the total offer (R143). -/
def shareOf (commitment isldiv : Nat) (alone : Bool) (own total : Nat) : Nat × Bool :=
  if commitment = 0 then (0, false)
  else if alone then (min own (commitment / isldiv), own ≤ commitment / isldiv)
  else if total ≤ commitment then (own, true)
  else (commitment * own / total, false)

/-- The unit divides the commitments: POST role, RUNNING, STARTING or MEASURING (R143). -/
def State.divides (s : State) : Bool := s.offers

/-- The up share and the up shortfall flag of an allocation taken now (R143). -/
def State.upShareNow (s : State) (w : WorkingCopy) : Nat × Bool :=
  shareOf w.upcommit w.isldiv s.peers.alone s.reserve.offerUp (totalOfferUp s.contributions)

/-- The down share and the down shortfall flag of an allocation taken now (R143). -/
def State.downShareNow (s : State) (w : WorkingCopy) : Nat × Bool :=
  shareOf w.dncommit w.isldiv s.peers.alone s.reserve.offerDown (totalOfferDown s.contributions)

/-- The reserve unit after it has divided the commitments (R143, R145). While shed-hold is ON the up share is 0. -/
def State.divided (s : State) (w : WorkingCopy) : Reserve :=
  lowerResponse
    { s.reserve with
      upShare := if s.share.shedHold then 0 else (s.upShareNow w).1
      downShare := (s.downShareNow w).1
      shortUp := (s.upShareNow w).2
      shortDown := (s.downShareNow w).2 }

/-- A shortfall flag that was clear is set by this event (R144). -/
def newShortfall (before after : Reserve) : Bool :=
  (after.shortUp && !before.shortUp) || (after.shortDown && !before.shortDown)

/-- The reserve unit takes an allocation event (R143, R144). -/
def allocateReserve (s : State) : State :=
  match s.store.working with
  | some w =>
    if s.divides then
      if newShortfall s.reserve (s.divided w) then raise .reserveShort (s.setReserve (s.divided w))
      else s.setReserve (s.divided w)
    else s.setReserve (lowerResponse { s.reserve with upShare := 0, downShare := 0, shortUp := false, shortDown := false })
  | none => s

/-- An allocation event is handed to the share engine and the reserve unit (R75, R125). -/
def allocationEvent (s : State) : State := allocateShare (allocateReserve s)

/-- The unit is handed the entry to ALONE: each share is lowered to the island portion (R144). -/
def reserveAlone (w : WorkingCopy) (r : Reserve) : Reserve :=
  lowerShares (min r.offerUp (w.upcommit / w.isldiv)) (min r.offerDown (w.dncommit / w.isldiv)) r

/-- Shed-hold becomes ON: the up share becomes 0, and a response above 0 becomes 0 (R145). -/
def reserveShed (r : Reserve) : Reserve := lowerResponse { r with upShare := 0 }

/-- The unit is handed a station state other than RUNNING (R147). -/
def leaveRunningReserve (r : Reserve) : Reserve :=
  { r with
    response := 0, upShare := 0, downShare := 0, shortUp := false, shortDown := false, offerUp := 0, offerDown := 0 }

/-- The unit at an entry to LISTENING: its state, and the edge timeout started (R133, R135). -/
def listenReserve (w : WorkingCopy) (r : Reserve) : Reserve :=
  { r with
    state := if w.role = .meter ∨ (w.upcommit = 0 ∧ w.dncommit = 0) then .disabled else .starting
    history := []
    implausibleCount := 0
    recoveryCount := 0
    edgeTimeout := some edgeTimeoutTime }

end Sys2Proof.Machine
end

