-- ==== Sys2Proof/Machine/Departure.lean ====
section
/-! DEFINITION. The readiness tracker's operations: the derived values, the readiness state, urgency and claim, entry
actions, and the end of a session (Chapter 2). -/

namespace Sys2Proof.Machine

/-- The departure of a card that plans no run (R27). -/
def noRun : Nat := 65535

/-- The minimum charging time (R32). -/
def tminOf (egap pmax : Nat) : Nat :=
  if egap = 0 then 0 else if pmax = 0 then 65535 else min 65535 (ceilDiv (egap * 60) pmax)

/-- The conditioning window (R33). -/
def windowOf (c : RunCard) (countdown : Nat) : Bool :=
  c.conditioning.any fun k => decide (0 < countdown ∧ countdown ≤ k.tcond)

/-- Slack: absent with no run planned (R33). -/
def slackOf (countdown tmin : Nat) : Option Int :=
  if countdown = noRun then none else some ((countdown : Int) - tmin)

/-- The derived values (R31 to R34). -/
def derivedOf (w : WorkingCopy) (c : RunCard) (countdown : Nat) (enow : Option Nat) (pvmax pderated ecap : Nat) :
    Derived where
  efloor := c.eroute + w.margin
  egap := enow.map fun e => c.eroute + w.margin - e
  pmax := min pvmax pderated
  tmin := enow.map fun e => tminOf (c.eroute + w.margin - e) (min pvmax pderated)
  slack := enow.bind fun e => slackOf countdown (tminOf (c.eroute + w.margin - e) (min pvmax pderated))
  windowOpen := windowOf c countdown
  etarget := ecap * w.target / 100

/-- The readiness state of a recompute: the first line that applies (R37). -/
def readinessOf (c : RunCard) (countdown : Nat) (d : Derived) : Readiness :=
  if c.departure = noRun then .unplanned
  else if countdown = 0 then .due
  else if d.windowOpen then .conditioning
  else if d.egap = none then .charging
  else if d.egap = some 0 then .topped
  else if d.slack.any (· < 0) then .atRisk
  else .charging

/-- The urgency of a recompute: the first line that applies (R35). -/
def urgencyOf (w : WorkingCopy) (r : Readiness) (d : Derived) : Nat :=
  if r = .unplanned ∨ r = .due then 0
  else if d.windowOpen then 3
  else if d.egap = some 0 then 0
  else if d.egap = none then 1
  else if d.slack.any (· < (w.s3 : Int)) then 3
  else if d.slack.any (· < (w.s2 : Int)) then 2
  else 1

/-- The claim toward the storage target: Pmax while Enow is below Etarget (R36). -/
def towardTarget (d : Derived) (enow : Option Nat) : Nat := if enow.any (· < d.etarget) then d.pmax else 0

/-- The base of a claim in CONDITIONING (R36). -/
def conditioningBase (d : Derived) (enow : Option Nat) : Nat :=
  if d.egap.any (0 < ·) then d.pmax else towardTarget d enow

/-- The claim of a recompute (R36). -/
def claimOf (r : Readiness) (d : Derived) (enow : Option Nat) (accepting : Bool) (pcond pderated : Nat) : Nat :=
  match r with
  | .unplanned => if accepting then towardTarget d enow else 0
  | .due => if accepting then towardTarget d enow else 0
  | .topped => if accepting then towardTarget d enow else 0
  | .charging => if accepting then d.pmax else 0
  | .atRisk => if accepting then d.pmax else 0
  | .conditioning =>
    if accepting then min (conditioningBase d enow + pcond) pderated else min pcond pderated
  | .vacant => 0
  | .linking => 0
  | .halted => 0

/-- The outcome an energy gap fixes (R41). -/
def outcomeOf (egap : Nat) : RunOutcome := if egap = 0 then .met else .short

/-- The outcome after a recompute that gives a readiness state. It is fixed on each entry to DUE, a card that leads to
DUE being an entry (R28, R41); an outcome that waits for the first STATUS is fixed when Egap ceases to be pending
(R40). -/
def outcomeAfter (cardStored : Bool) (t : Tracker) (r : Readiness) (d : Derived) : Option RunOutcome :=
  if r = .due ∧ (t.readiness ≠ .due ∨ cardStored ∨ t.outcome = none) then
    d.egap.elim t.outcome fun g => some (outcomeOf g)
  else t.outcome

/-- Pcond of a card: 0 when the part is absent (R27). -/
def RunCard.pcond (c : RunCard) : Nat := c.conditioning.elim 0 Conditioning.pcond

/-- The derived values of the present state (R31 to R34). -/
def State.derivedNow (s : State) (w : WorkingCopy) (c : RunCard) : Derived :=
  derivedOf w c (s.tracker.countdown.getD noRun) s.account.enow s.pvmax s.composer.pderated s.ecap

/-- The readiness state of the present state (R37). -/
def State.readinessNow (s : State) (w : WorkingCopy) (c : RunCard) : Readiness :=
  readinessOf c (s.tracker.countdown.getD noRun) (s.derivedNow w c)

/-- The vehicle-accepting condition with the tracker in a given readiness state (R15). -/
def State.acceptingIn (s : State) (r : Readiness) : Bool :=
  r.linked && s.vehicle.pilot == .energy && s.vehicle.lastStatus.any fun t => statusAccepts t && statusContactor t

/-- The tracker after a recompute (R30, steps 1 to 4). -/
def State.recomputed (s : State) (cardStored : Bool) (w : WorkingCopy) (c : RunCard) : Tracker :=
  { s.tracker with
    derived := some (s.derivedNow w c)
    readiness := s.readinessNow w c
    urgency := urgencyOf w (s.readinessNow w c) (s.derivedNow w c)
    claim :=
      claimOf (s.readinessNow w c) (s.derivedNow w c) s.account.enow (s.acceptingIn (s.readinessNow w c))
        c.pcond s.composer.pderated
    outcome := outcomeAfter cardStored s.tracker (s.readinessNow w c) (s.derivedNow w c) }

/-- AT_RISK_ENTERED is raised on an entry to AT_RISK from any other state (R43). -/
def raiseAtRisk (before : Readiness) (s : State) : State :=
  if s.tracker.readiness = .atRisk ∧ before ≠ .atRisk then raise .atRiskEntered s else s

/-- The tracker recomputes; the claim is handed to the share engine and the readiness state to the energy account
(R30, R58, R114). -/
def recompute (cardStored : Bool) (s : State) : State :=
  match s.store.working, s.tracker.card with
  | some w, some c =>
    updateLending (claimHanded (raiseAtRisk s.tracker.readiness (s.setTracker (s.recomputed cardStored w c))))
  | _, _ => s

/-- A recompute at a change of an input: the tracker computes nothing in VACANT, LINKING and HALTED (R30). -/
def recomputeIfLinked (s : State) : State := if s.tracker.readiness.linked then recompute false s else s

/-- The minute timer a countdown value calls for in a linked state (R29). -/
def minuteTimerFor (countdown : Nat) : Option Nat :=
  if 1 ≤ countdown ∧ countdown ≤ 1440 then some minuteTime else none

/-- The tracker with a new card: the countdown set, the minute timer restarted, a planned run marked (R28). -/
def Tracker.withCard (c : RunCard) (t : Tracker) : Tracker :=
  { t with
    card := some c
    countdown := some c.departure
    minuteTimer := minuteTimerFor c.departure
    planMark := t.planMark || c.departure != noRun }

/-- The tracker stores a card and recomputes (R27, R28). -/
def storeCard (c : WireCard) (s : State) : State :=
  recompute true (s.setTracker (s.tracker.withCard (RunCard.ofWire c)))

/-- The tracker at the expiry of the minute timer, before its recompute (R29, R43). -/
def Tracker.minute (t : Tracker) : Tracker :=
  { t with
    atRiskMinutes := if t.readiness = .atRisk then bump 65535 t.atRiskMinutes else t.atRiskMinutes
    countdown := t.countdown.map (· - 1)
    minuteTimer := t.countdown.bind fun n => minuteTimerFor (n - 1) }

/-- The tracker at entry to HALTED (R42). No derived values are held in HALTED (R30). -/
def Tracker.halt (r : HaltReason) (t : Tracker) : Tracker :=
  { t with
    readiness := .halted, haltReason := some r, outcome := some .halted, minuteTimer := none, derived := none,
    urgency := 0, claim := 0 }

/-- The tracker at a link-up start (R38). -/
def Tracker.linkUp (t : Tracker) : Tracker := { Tracker.reset with readiness := .linking, record := t.record }

/-- The tracker becomes VACANT and keeps its last-session record (R44, R49). -/
def Tracker.vacate (t : Tracker) : Tracker := { Tracker.reset with record := t.record }

/-- Egap at this moment: the stored card's Efloor less Enow, and not below 0; none while Enow is absent (R31, R46). -/
def State.egapNow (s : State) : Option Nat :=
  match s.store.working, s.tracker.card with
  | some w, some c => s.account.enow.map fun e => c.eroute + w.margin - e
  | _, _ => none

/-- The outcome settled at a session end (R44, step 1), from Egap at that moment (R46, assumption 37). -/
def State.settledOutcome (s : State) : RunOutcome :=
  match s.tracker.outcome with
  | some o => o
  | none => if s.tracker.planMark then (if s.egapNow = some 0 then .met else .short) else .noPlan

/-- The last-session record a session end writes (R44, R45, R62). -/
def State.sessionRecord (s : State) : LastSession where
  vehicleId := s.vehicle.vehicleId
  outcome := s.settledOutcome
  energyIn := s.account.energyIn
  energyOut := s.account.energyOut
  atRiskMinutes := s.tracker.atRiskMinutes
  haltReason := if s.settledOutcome = .halted then s.tracker.haltReason else none

/-- The tracker takes a session end: it writes the record and becomes VACANT, and the account is cleared (R44, R62). -/
def endSession (s : State) : State :=
  claimHanded
    ((s.setTracker { s.tracker.vacate with record := some s.sessionRecord }).setAccount Account.reset)

end Sys2Proof.Machine
end

