-- ==== Sys2Proof/Machine/Ops.lean ====
section
/-! DEFINITION. The shared operations that reach several blocks: halts, link-up, the end of a connection, changes of
station state and of ALONE, sheds, and responses (R6, R7, R20, R67, R92, R122, R178). -/

namespace Sys2Proof.Machine

/-! ## Forward frames (R11) -/

/-- A PERMIT. -/
def ForwardFrame.isPermit : ForwardFrame → Bool
  | .permit _ _ => true
  | .hello _ _ _ => false
  | .stop _ _ => false

/-- A STOP. -/
def ForwardFrame.isStop : ForwardFrame → Bool
  | .stop _ _ => true
  | .permit _ _ => false
  | .hello _ _ _ => false

/-- The waiting frames without a waiting PERMIT (R11). -/
def withoutPermit (frames : List ForwardFrame) : List ForwardFrame := frames.filter fun f => !f.isPermit

/-- A STOP of the present session, with a reason, joins the waiting frames and a waiting PERMIT is discarded. With no
session there is no STOP (R6, R11, R12). -/
def VehicleLine.close (reason : StopReason) (v : VehicleLine) : VehicleLine :=
  { v with
    helloTimer := none
    watchdog := none
    waiting := withoutPermit v.waiting ++ (if v.sessionOpen then [.stop v.session reason] else []) }

/-! ## Halts (R6) -/

/-- A halt reason is reported (R6, R42). In HALTED the new reason is discarded. -/
def halt (r : HaltReason) (s : State) : State :=
  if s.tracker.readiness = .halted then s
  else
    updateLending
      (claimHanded
        (raise .halted
          ((s.setTracker (s.tracker.halt r)).setVehicle (s.vehicle.close (.halt r)))))

/-! ## Link-up (R7) -/

/-- The next session number: 255 wraps to 1 (R5). -/
def nextSession (n : Byte) : Byte := if n = 255 then 1 else n + 1

/-- The vehicle line controller at a link-up start: a new session, and its first HELLO made (R7). -/
def VehicleLine.linkUp (w : WorkingCopy) (v : VehicleLine) : VehicleLine :=
  { v with
    session := nextSession v.session
    sessionOpen := true
    helloCount := 1
    waiting := v.waiting ++ [.hello (nextSession v.session) w.station w.prated] }

/-- The conditions of a link-up start hold (R7). -/
def State.canLinkUp (s : State) : Bool :=
  s.isPost && (s.link.station == .listening || s.link.station == .running)
    && s.tracker.readiness == .vacant && (s.vehicle.pilot == .present || s.vehicle.pilot == .energy)

/-- The link-up conditions are checked, and a link-up starts when they hold (R7, R38, R61). -/
def checkLinkUp (s : State) : State :=
  match s.store.working with
  | some w =>
    if s.canLinkUp then
      ((s.setVehicle (s.vehicle.linkUp w)).setTracker s.tracker.linkUp).setAccount Account.reset
    else s
  | none => s

/-! ## End of a connection (R20) -/

/-- The vehicle line controller after a session is closed: id, STATUS and HELLO count cleared (R20, R26). -/
def VehicleLine.clearSession (v : VehicleLine) : VehicleLine :=
  { v with sessionOpen := false, vehicleId := none, lastStatus := none, helloCount := 0 }

/-- The session ends by a confirmation of NONE (R20). -/
def unplug (s : State) : State :=
  (endSession s).setVehicle (s.vehicle.close .unplugged).clearSession

/-- A sample confirms NONE on the pilot (R20). -/
def confirmNone (s : State) : State :=
  if s.vehicle.sessionOpen then unplug s
  else if s.tracker.readiness = .halted then s.setTracker s.tracker.vacate
  else s

/-! ## ALONE (R92, R93, R117, R144) -/

/-- The share engine is handed the entry to ALONE (R117). -/
def shareAlone (w : WorkingCopy) (claim : Nat) (sh : Share) : Share :=
  { endTenure sh with allowance := min sh.allowance (islandAllowance w claim) }

/-- ALONE is entered: the table raises ALONE_ENTERED and hands the entry to the share engine and the reserve unit
(R92). In the METER role their items stay as they are (R101, R131). -/
def enterAlone (s : State) : State :=
  match s.store.working with
  | some w =>
    if w.role = .post then
      raise .aloneEntered
        (((s.setPeers { s.peers with alone := true }).setShare (shareAlone w s.tracker.claim s.share)).setReserve
          (reserveAlone w s.reserve))
    else raise .aloneEntered (s.setPeers { s.peers with alone := true })
  | none => s

/-- The table decides ALONE: entered when RUNNING with no entry (R92). -/
def decideAlone (s : State) : State :=
  if s.link.station = .running ∧ s.peers.entries = [] then enterAlone s else s

/-! ## The derating (R154) -/

/-- The derate index of a temperature; 0 while none has been reported (R154). -/
def derateIndexOf (temperature : Option Int) : Nat :=
  temperature.elim 0 fun t => (clampInt 0 15 ((t - 40) / 5)).toNat

/-- The composer with its derating computed from its temperature (R154). -/
def Composer.derated (w : WorkingCopy) (c : Composer) : Composer :=
  { c with
    derateIndex := derateIndexOf c.temperature
    derateFactor := w.derate.getD (derateIndexOf c.temperature) 0
    pderated := w.prated * w.derate.getD (derateIndexOf c.temperature) 0 / 256 }

/-- The derating is computed, and a change of Pderated is handed to the tracker (R154). -/
def rederate (w : WorkingCopy) (s : State) : State :=
  if (s.composer.derated w).pderated = s.composer.pderated then s.setComposer (s.composer.derated w)
  else recomputeIfLinked (s.setComposer (s.composer.derated w))

/-! ## Station states (R67) -/

/-- A station state other than RUNNING is handed to the peer table, the share engine and the reserve unit: ALONE ends
and their items become 0 (R93, R116, R121, R147). -/
def leaveRunning (s : State) : State :=
  ((s.setPeers { s.peers with alone := false }).setShare (leaveRunningShare s.share)).setReserve
    (leaveRunningReserve s.reserve)

/-- The link controller at an entry to LISTENING (R69). -/
def Link.listen (w : WorkingCopy) (k : Link) : Link :=
  { k with station := .listening, listenTimer := some w.silentTime, announceTimer := none }

/-- The composer at an entry to LISTENING: the derating in the POST role, whose feeder sample is absent, since R152 keeps
one in the METER role only (R154, R167, assumption 40); in the METER role Pderated is 0, and a sample that has reached
the feed stays (R121). -/
def listenStage (w : WorkingCopy) (s : State) : State :=
  if w.role = .post then rederate w (s.setComposer { s.composer with feederSample := none }) else s

/-- The station enters LISTENING with a working copy (R69, R133, R135, R167), and the link-up conditions are
checked (R7). -/
def enterListening (w : WorkingCopy) (s : State) : State :=
  checkLinkUp
    (listenStage w
      ((leaveRunning (s.setLink (s.link.listen w))).setReserve (listenReserve w (leaveRunningReserve s.reserve))))

/-- The link controller at an entry to UNCONFIGURED (R68). -/
def Link.unconfigure (k : Link) : Link :=
  { k with station := .unconfigured, listenTimer := none, announceTimer := none }

/-- The station enters UNCONFIGURED, and the store raises UNCONFIGURED (R67, R170). -/
def enterUnconfigured (s : State) : State := raise .unconfigured (leaveRunning (s.setLink s.link.unconfigure))

/-- The station stops driving the line, if it does: the idle time starts at the end of what it has sent, and the
receiver delivers nothing until the line is next idle (R66, R74, R77). -/
def Link.stopDriving (k : Link) : Link :=
  if k.transmitting = none then k else { k with transmitting := none, idleTime := 0, receiver := .deaf 0 }

/-- The link controller at a clash: timers stopped, frames in hand discarded, a transmission stopped (R79). -/
def Link.clash (k : Link) : Link :=
  { k.stopDriving with
    station := .clash, listenTimer := none, announceTimer := none, announceHand := none, shedHand := none,
    shedBehind := none }

/-- A clash is taken in LISTENING or RUNNING (R79). -/
def enterClash (s : State) : State := raise .clash (leaveRunning (s.setLink s.link.clash))

/-! ## The announce timer (R70) -/

/-- One step of the sequence generator (R70). -/
def sequenceStep (x : Word) : Word :=
  (x >>> 1) ||| (BitVec.ofBool (x.getLsbD 0 ^^ x.getLsbD 2 ^^ x.getLsbD 3 ^^ x.getLsbD 5)).setWidth 16 <<< 15

/-- The four steps of one load (R70). -/
def sequenceLoad (x : Word) : Word := sequenceStep (sequenceStep (sequenceStep (sequenceStep x)))

/-- The seed of the sequence generator: the station number multiplied by 257 (R70). -/
def sequenceSeed (station : Nat) : Word := BitVec.ofNat 16 (station * 257)

/-- The reload value of an advanced sequence generator, in ms (R70). -/
def reloadOf (w : WorkingCopy) (x : Word) : Nat := w.announceTime - 8 + x.toNat % 16

/-- The link controller with its announce timer loaded from the sequence generator (R70). -/
def Link.loadAnnounceTimer (w : WorkingCopy) (k : Link) : Link :=
  match k.sequence with
  | some x => { k with sequence := some (sequenceLoad x), announceTimer := some (millis (reloadOf w (sequenceLoad x))) }
  | none => k

/-! ## Sheds (R122, R124) -/

/-- The share engine of a post takes a SHED in RUNNING (R122). -/
def shedShare (w : WorkingCopy) (fraction : Nat) (sh : Share) : Share :=
  startShedHold w (shedCut sh.allowance fraction) (setAllowance (shedCut sh.allowance fraction) sh)

/-- A post takes a SHED in RUNNING: the allowance, the ramp, the cap, shed-hold and the up share (R122, R145, R156). -/
def shedRunning (w : WorkingCopy) (fraction : Nat) (s : State) : State :=
  ((s.setShare (shedShare w fraction s.share)).setComposer
    { s.composer with ramped := min s.composer.ramped (shedCut s.share.allowance fraction) }).setReserve
    (reserveShed s.reserve)

/-- A post takes a SHED in LISTENING: A is 0, and the cap becomes 0 (R124). -/
def shedListening (w : WorkingCopy) (s : State) : State :=
  (s.setShare (startShedHold w 0 s.share)).setReserve (reserveShed s.reserve)

/-- The share engine is handed a valid SHED in LISTENING or RUNNING (R122, R124). -/
def takeShed (w : WorkingCopy) (fraction : Nat) (s : State) : State :=
  if w.role = .meter then raise .shedHeard s
  else if s.link.station = .running then raise .shedHeard (shedRunning w fraction s)
  else raise .shedHeard (shedListening w s)

/-! ## Free values -/

/-- The next free value has been drawn. -/
def State.drawn (s : State) : State := s.setFreeDraws (s.freeDraws + 1)

/-! ## Responses (R178) -/

/-- During a request transfer of `clocked` bytes after the first the part clocks out 00 hex (R178). -/
def clockZeros (clocked : Nat) (s : State) : State := s.setService { s.service with tx := List.replicate clocked 0 }

/-- A response is put in the response buffer, in place of one still unread, during a request transfer of `clocked` bytes
after the first (R178). -/
def respond (clocked : Nat) (status : Status) (data : List Byte) (s : State) : State :=
  clockZeros clocked (s.setService { s.service with response := some { status := status, data := data } })

end Sys2Proof.Machine
end

