-- ==== Sys2Proof/Machine/LoopTest.lean ====
section
/-! DEFINITION. The loop test of the vehicle line: its frames, outcomes and ends, and the command
RETURN_WINDOW_EXPIRY (1.8). -/

namespace Sys2Proof.Machine

/-- The test frame with index `i` is the next to be sent: it waits for the line, and no return window is open (R23,
assumption 13). -/
def VehicleLine.awaitTestFrame (i : Nat) (v : VehicleLine) : VehicleLine :=
  { v with loopIndex := i, loopWindow := none }

/-- The last bit of the test frame has left, and its return window opens (R23, step 3). -/
def VehicleLine.sendTestFrame (v : VehicleLine) : VehicleLine :=
  { v with loopWindow := some returnWindowTime, tx := testFrame v.loopIndex }

/-- A loop test starts: result RUNNING, no errors, frame 0 to be sent (R23). -/
def VehicleLine.startLoopTest (v : VehicleLine) : VehicleLine :=
  VehicleLine.awaitTestFrame 0 { v with loopResult := .running, loopErrors := 0 }

/-- The test error counter after an outcome (R23). -/
def loopErrorsAfter (pass : Bool) (n : Nat) : Nat := if pass then n else n + 1

/-- The loop test completes at the outcome of frame 255 (R24). -/
def VehicleLine.completeLoopTest (pass : Bool) (v : VehicleLine) : VehicleLine :=
  { v with
    loopErrors := loopErrorsAfter pass v.loopErrors
    loopResult := if loopErrorsAfter pass v.loopErrors = 0 then .pass else .fail
    loopWindow := none }

/-- The outcome of the frame in flight is decided: its window is over and the next frame is to be sent, or the test
completes (R23, R24). -/
def decideTestFrame (pass : Bool) (s : State) : State :=
  if 255 ≤ s.vehicle.loopIndex then raise .looptestDone (s.setVehicle (s.vehicle.completeLoopTest pass))
  else
    s.setVehicle
      (VehicleLine.awaitTestFrame (s.vehicle.loopIndex + 1)
        { s.vehicle with loopErrors := loopErrorsAfter pass s.vehicle.loopErrors })

/-- A frame received while a loop test runs: it decides the frame in flight when a return window is open, and is
discarded otherwise (R23). -/
def loopReceive (frame : List Byte) (s : State) : State :=
  if s.vehicle.loopWindow.isSome then decideTestFrame (decide (frame = testFrame s.vehicle.loopIndex)) s else s

/-- A running loop test is aborted: the error counter keeps its count (R24). -/
def abortLoopTest (s : State) : State :=
  raise .looptestDone (s.setVehicle { s.vehicle with loopResult := .aborted, loopWindow := none })

/-- The return window closes with nothing received: the frame is missing (R23). -/
def returnWindowExpired (s : State) : State :=
  if s.loopRunning && due s.vehicle.loopWindow then decideTestFrame false s else s

/-- RETURN_WINDOW_EXPIRY (R23). -/
def execReturnWindowExpiry (s : State) : Host.Outcome State Fault Refusal := .next (returnWindowExpired s)

end Sys2Proof.Machine
end

