-- ==== Sys2Proof/Machine/Connector.lean ====
section
/-! DEFINITION. The vehicle line controller's commands: connector samples, the frames of a session and its timers
(Chapter 1). -/

namespace Sys2Proof.Machine

/-! ## Sampling (R3, R4) -/

/-- The class of a pilot voltage in mV (R3). -/
def pilotClassOf (millivolts : Int) : PilotClass :=
  if 13000 < millivolts then .shortHigh
  else if 10500 ≤ millivolts then .none
  else if 7500 ≤ millivolts then .present
  else if 4500 ≤ millivolts then .energy
  else if 1000 ≤ millivolts then .invalid
  else .shortLow

/-- The class of a proximity sample (R3). -/
def proximityOf (latchSensed : Bool) : Proximity := if latchSensed then .closed else .opened

/-- The class of an earth sample (R3). -/
def earthOf (earthSensed : Bool) : Earth := if earthSensed then .ok else .lost

/-- The confirmed class after a sample: the class of the three latest samples when they agree (R4). -/
def confirm {α : Type} [DecidableEq α] (history : List α) (confirmed : α) : α :=
  match history with
  | [a, b, c] => if a = b ∧ b = c then c else confirmed
  | _ => confirmed

/-- The vehicle line controller after one sample of the three inputs (R4). -/
def VehicleLine.sampled (p : PilotClass) (x : Proximity) (e : Earth) (v : VehicleLine) : VehicleLine :=
  { v with
    pilotHistory := joinThree p v.pilotHistory
    proximityHistory := joinThree x v.proximityHistory
    earthHistory := joinThree e v.earthHistory
    pilot := confirm (joinThree p v.pilotHistory) v.pilot
    proximity := confirm (joinThree x v.proximityHistory) v.proximity
    earth := confirm (joinThree e v.earthHistory) v.earth }

/-- Step 1 of R17: a new pilot class or OPEN on proximity aborts a running loop test. `before` holds the confirmed
classes before the sample. -/
def sampleAbortsTest (before : VehicleLine) (s : State) : State :=
  if s.loopRunning
      ∧ (s.vehicle.pilot ≠ before.pilot ∨ (s.vehicle.proximity = .opened ∧ before.proximity ≠ .opened)) then
    abortLoopTest s
  else s

/-- Step 2 of R17: a confirmation of NONE. -/
def sampleUnplugs (before : VehicleLine) (s : State) : State :=
  if s.vehicle.pilot = .none ∧ before.pilot ≠ .none then confirmNone s else s

/-- The first sensed fault condition that holds, in the order of R16. -/
def connectorFault (v : VehicleLine) : Option HaltReason :=
  if v.pilot = .shortLow then some .pilotShortLow
  else if v.pilot = .shortHigh then some .pilotShortHigh
  else if v.earth = .lost ∧ v.pilot ≠ .none then some .earthLost
  else if v.pilot = .invalid then some .pilotInvalid
  else if v.proximity = .opened ∧ v.pilot ≠ .none then some .proximityOpen
  else none

/-- Step 3 of R17: the sensed fault conditions are evaluated (R16). -/
def evaluateFaults (s : State) : State :=
  if s.isPost && s.link.station.active then (connectorFault s.vehicle).elim s fun r => halt r s else s

/-- A change of the accepting condition at a sample lets the tracker recompute, after the steps of R17 and while
readiness is still a linked state (R30, assumption 7). -/
def sampleRecompute (changed : Bool) (s : State) : State := if changed then recomputeIfLinked s else s

/-- One sample of the connector (R17). -/
def connectorSampled (p : PilotClass) (x : Proximity) (e : Earth) (s : State) : State :=
  let taken := s.setVehicle (s.vehicle.sampled p x e)
  sampleRecompute (taken.accepting != s.accepting)
    (checkLinkUp (evaluateFaults (sampleUnplugs s.vehicle (sampleAbortsTest s.vehicle taken))))

/-- CONNECTOR_SAMPLE (R17). -/
def execConnectorSample (pilotMillivolts : Int) (latchSensed earthSensed : Bool) (s : State) :
    Host.Outcome State Fault Refusal :=
  .next (connectorSampled (pilotClassOf pilotMillivolts) (proximityOf latchSensed) (earthOf earthSensed) s)

/-! ## Forward frames (R8, R11) -/

/-- The vehicle line controller makes another HELLO of the same session (R8). -/
def VehicleLine.repeatHello (w : WorkingCopy) (v : VehicleLine) : VehicleLine :=
  { v with
    helloTimer := none
    helloCount := v.helloCount + 1
    waiting := v.waiting ++ [.hello v.session w.station w.prated] }

/-- The HELLO reply timer has expired in LINKING (R8). -/
def helloUnanswered (s : State) : State :=
  match s.store.working with
  | some w => if s.vehicle.helloCount < 3 then s.setVehicle (s.vehicle.repeatHello w) else halt .linkup s
  | none => s

/-- The HELLO reply timer expires (R8, R10). -/
def helloReplyExpired (s : State) : State :=
  if due s.vehicle.helloTimer && s.tracker.readiness == .linking then helloUnanswered s else s

/-- HELLO_REPLY_TIMER_EXPIRY (R8). -/
def execHelloReplyTimerExpiry (s : State) : Host.Outcome State Fault Refusal := .next (helloReplyExpired s)

/-- The HELLO reply timer after a forward frame has left the line: a HELLO sets it while a link-up is open (R8,
assumption 12). -/
def helloTimerAfter (f : ForwardFrame) (readiness : Readiness) (timer : Option Nat) : Option Nat :=
  match f with
  | .hello _ _ _ => if readiness = .linking then some helloReplyTime else timer
  | .permit _ _ => timer
  | .stop _ _ => timer

/-- The line is idle: the first waiting forward frame goes out, or the test frame of a running loop test that waits
for the line (R8, R11, R23). -/
def forwardFrameSent (s : State) : State :=
  match s.vehicle.waiting with
  | [] => if s.loopRunning && s.vehicle.loopWindow.isNone then s.setVehicle s.vehicle.sendTestFrame else s
  | f :: rest =>
    s.setVehicle
      { s.vehicle with
        waiting := rest
        tx := f.characters
        helloTimer := helloTimerAfter f s.tracker.readiness s.vehicle.helloTimer }

/-- FORWARD_FRAME_SEND (R11). -/
def execForwardFrameSend (s : State) : Host.Outcome State Fault Refusal := .next (forwardFrameSent s)

/-! ## Back frames (R9, R13, R14) -/

/-- VWD of the working copy (R18). -/
def State.watchdogTime (s : State) : Nat := millis (s.store.working.elim 0 WorkingCopy.vwd)

/-- The vehicle watchdog is started or restarted (R18). -/
def startWatchdog (s : State) : State := s.setVehicle { s.vehicle with watchdog := some s.watchdogTime }

/-- A valid IDENT (R9, R39). -/
def takeIdent (id : VehicleId) (c : WireCard) (s : State) : State :=
  if s.tracker.readiness = .linking then
    startWatchdog (storeCard c (s.setVehicle { s.vehicle with helloTimer := none, vehicleId := some id }))
  else s

/-- A STATUS whose echo matches: stored, the watchdog restarted, handed to the account and then to the tracker (R13,
R40, R55). -/
def acceptStatus (t : WireStatus) (s : State) : State :=
  recompute false (reconcile (startWatchdog (s.setVehicle { s.vehicle with lastStatus := some t })))

/-- A valid STATUS (R13). -/
def takeStatus (t : WireStatus) (s : State) : State :=
  if s.tracker.readiness.linked then
    if t.echo = s.vehicle.session then
      if statusFault t then halt .vehicleFault (acceptStatus t s) else acceptStatus t s
    else halt .crossed s
  else s

/-- A valid CARD (R14, R28). -/
def takeCard (c : WireCard) (s : State) : State := if s.tracker.readiness.linked then storeCard c s else s

/-- A back frame in ordinary service, by the checks of R11. -/
def takeBackFrame (frame : List Byte) (s : State) : State :=
  match backFrameOf frame with
  | .badCrc => s.setVehicle { s.vehicle with crcErrors := bump 255 s.vehicle.crcErrors }
  | .unknown => s
  | .ident id c => takeIdent id c s
  | .status t => takeStatus t s
  | .card c => takeCard c s
  | .test => s

/-- A frame received on the vehicle line: while a loop test runs it is handled by the loop test alone (R11). After the
test it is an ordinary back frame, and so is the return of a test frame that was in flight at an abort: it is discarded,
and a damaged one is counted (R21, R24, assumption 36). -/
def receiveBack (frame : List Byte) (ordinary : State → State) (s : State) : State :=
  if s.loopRunning then loopReceive frame s else ordinary s

/-- IDENT_RECEIVED (R9). -/
def execIdentReceived (id : VehicleId) (card : WireCard) (s : State) : Host.Outcome State Fault Refusal :=
  .next (receiveBack (identFrame id card) (takeIdent id card) s)

/-- STATUS_RECEIVED (R13). -/
def execStatusReceived (status : WireStatus) (s : State) : Host.Outcome State Fault Refusal :=
  .next (receiveBack (statusFrame status) (takeStatus status) s)

/-- CARD_RECEIVED (R14). -/
def execCardReceived (card : WireCard) (s : State) : Host.Outcome State Fault Refusal :=
  .next (receiveBack (cardFrame card) (takeCard card) s)

/-- VEHICLE_FRAME_DISCARDED (R11): the frame's characters decide what becomes of it. -/
def execVehicleFrameDiscarded (frame : List Byte) (s : State) : Host.Outcome State Fault Refusal :=
  .next (receiveBack frame (takeBackFrame frame) s)

/-- TEST_FRAME_RETURN (R23): a frame received on the vehicle line. During a loop test the return window decides; without
a test it is a back frame in ordinary service (R11). -/
def execTestFrameReturn (frame : List Byte) (s : State) : Host.Outcome State Fault Refusal :=
  .next (receiveBack frame (takeBackFrame frame) s)

/-! ## The watchdog and the minute timer (R18, R29) -/

/-- The vehicle watchdog expires (R18). -/
def watchdogExpired (s : State) : State := if due s.vehicle.watchdog then halt .vehicleSilent s else s

/-- VEHICLE_WATCHDOG_EXPIRY (R18). -/
def execVehicleWatchdogExpiry (s : State) : Host.Outcome State Fault Refusal := .next (watchdogExpired s)

/-- One minute has passed: the AT_RISK minute is counted, the countdown steps, the tracker recomputes and the timer
restarts (R29). -/
def minuteStep (s : State) : State := recompute false (s.setTracker s.tracker.minute)

/-- The minute timer expires (R29). -/
def minuteExpired (s : State) : State :=
  if due s.tracker.minuteTimer && s.tracker.readiness.linked then minuteStep s else s

/-- MINUTE_TIMER_EXPIRY (R29). -/
def execMinuteTimerExpiry (s : State) : Host.Outcome State Fault Refusal := .next (minuteExpired s)

end Sys2Proof.Machine
end

