-- ==== Sys2Proof/Machine/Stage.lean ====
section
/-! DEFINITION. The setpoint composer's commands: REPORT and feeder samples, the control period, the stage modes and the
stage faults, and the periodic updates of the energy account and the reserve unit (Chapters 3, 7, 8). -/

namespace Sys2Proof.Machine

/-! ## Stage faults (R163) -/

/-- The composer acts: POST role, in LISTENING, RUNNING or CLASH (R152). -/
def State.composes (s : State) : Bool := s.isPost && s.link.station.active

/-- A stage fault is found: its halt reason is reported while a session exists, in LINKING or a linked state (R163). -/
def stageFault (r : HaltReason) (s : State) : State :=
  if s.tracker.readiness = .linking ∨ s.tracker.readiness.linked then halt r s else s

/-- STAGE_SILENT is evaluated: with the silent count at 5 or above, the draw becomes 0 and the fault is found (R163). -/
def evaluateSilence (s : State) : State :=
  if 5 ≤ s.composer.silentCount then stageFault .stageSilent (s.setComposer { s.composer with draw := 0 }) else s

/-- STAGE_FAULT is evaluated (R163). -/
def evaluateConverter (s : State) : State :=
  if s.composer.converter = some .fault then stageFault .stageFault s else s

/-! ## REPORT (R153, R160, R164) -/

/-- The stage mode becomes WAKE, with the wake timer started (R160); a STAGE_TIMEOUT of an earlier wake no longer stands
(assumption 38). -/
def Composer.wakeUp (c : Composer) : Composer :=
  { c with mode := .wake, wakeTimer := some 0, timedOut := false, idleTimer := 0, settle := 0 }

/-- The stage mode becomes STANDBY (R160). -/
def Composer.standBy (c : Composer) : Composer :=
  { c with mode := .standby, wakeTimer := none, idleTimer := 0, settle := 0 }

/-- The mode transitions that a reported state causes (R160). -/
def Composer.reported (state : Converter) (c : Composer) : Composer :=
  match c.mode with
  | .standby => c
  | .wake => if state = .ready then { c with mode := .run, settle := 2, wakeTimer := none } else c
  | .run => if state = .ready then c else if c.target ≠ 0 then c.wakeUp else c.standBy

/-- A REPORT is accepted in the POST role (R153, steps 1 to 5). -/
def acceptReport (w : WorkingCopy) (r : WireReport) (state : Converter) (s : State) : State :=
  let stored := s.setComposer
    { s.composer with
      draw := r.power.toInt, converter := some state, temperature := some r.temperature.toInt, silentCount := 0 }
  let derated := rederate w stored
  let moved := derated.setComposer (derated.composer.reported state)
  handOver r.power.toInt (evaluateConverter moved)

/-- A SHED is requested from the link controller (R76). -/
def requestShed (fraction : Nat) (s : State) : State :=
  if s.link.station = .running then
    if s.link.transmitting = some .shed then
      s.setLink
        { s.link with shedBehind := some { station := byteOf s.stationNumber, fraction := wordOfNat fraction } }
    else
      s.setLink
        { s.link with
          shedHand := some
            { frame := { station := byteOf s.stationNumber, fraction := wordOfNat fraction }, attempts := 0 } }
  else s

/-- A meter that sheds acts on a sample (R120). -/
def shedSample (w : WorkingCopy) (m : Int) (s : State) : State :=
  if m ≤ w.fcap then s.setShare { s.share with shedding := false, overloadCount := 0 }
  else if positiveDraw s.contributions = 0 then s
  else
    requestShed (shedFraction (m - w.fcap).toNat (positiveDraw s.contributions))
      (s.setShare
        { s.share with
          lastFraction := some (shedFraction (m - w.fcap).toNat (positiveDraw s.contributions)) })

/-- The share engine of a meter is handed a sample in RUNNING (R119, R120). -/
def detectOverload (w : WorkingCopy) (m : Int) (s : State) : State :=
  if (countSample w m s.share).shedding then shedSample w m (s.setShare (countSample w m s.share))
  else s.setShare (countSample w m s.share)

/-- A REPORT is accepted in the METER role: it is a feeder sample (R164). -/
def acceptSample (w : WorkingCopy) (m : Int) (s : State) : State :=
  if s.link.station = .running then
    detectOverload w m (s.setComposer { s.composer with feederSample := some m })
  else s.setComposer { s.composer with feederSample := some m }

/-- A REPORT arrives in LOADING or UNCONFIGURED: it is never counted, and a free value says whether it reaches the meter
feed, as R121 states, or is discarded, as R152 and R164 state (assumption 40). -/
def sampleWithoutCopy (m : Int) (s : State) : State :=
  (s.setComposer
    { s.composer with
      feederSample := if Config.sampleReachesFeed s.freeDraws then some m else s.composer.feederSample }).drawn

/-- A REPORT is accepted by the role of the working copy (R153, R164). -/
def acceptByRole (r : WireReport) (state : Converter) (s : State) : State :=
  match s.store.working with
  | some w => if w.role = .post then acceptReport w r state s else acceptSample w r.power.toInt s
  | none => s

/-- A frame of REPORT form arrives on the power stage port: discarded with a state code above 3, otherwise taken by the
role in LISTENING, RUNNING and CLASH, and in LOADING and UNCONFIGURED as R121 and R152 leave it (R121, R152, R153, R164,
R184). -/
def receiveReport (r : WireReport) (s : State) : State :=
  match Converter.ofByte r.state with
  | some state =>
    if s.link.station.active then acceptByRole r state s else sampleWithoutCopy r.power.toInt s
  | none => s

/-- REPORT_RECEIVED (R153). -/
def execReportReceived (report : WireReport) (s : State) : Host.Outcome State Fault Refusal :=
  .next (receiveReport report s)

/-- FEEDER_SAMPLE (R164). -/
def execFeederSample (report : WireReport) (s : State) : Host.Outcome State Fault Refusal :=
  .next (receiveReport report s)

/-- STAGE_FRAME_DISCARDED (R153): the frame's characters decide; one that is no valid REPORT is discarded. -/
def execStageFrameDiscarded (frame : List Byte) (s : State) : Host.Outcome State Fault Refusal :=
  .next ((reportOf frame).elim s fun r => receiveReport r s)

/-! ## The control period (R155) -/

/-- Step 1 of R155: silence. -/
def periodSilence (s : State) : State :=
  evaluateSilence (s.setComposer { s.composer with silentCount := bump 255 s.composer.silentCount })

/-- Step 2 of R155: the clamps (R157). -/
def periodClamps (s : State) : State :=
  s.setComposer { s.composer with upperClamp := s.upperClamp, lowerClamp := -(s.account.offer : Int) }

/-- The ramped allowance after a period: a rise of at most RAMP, a fall in full (R156). -/
def rampOf (step ramped goal : Nat) : Nat := if ramped < goal then min goal (ramped + step) else goal

/-- Step 3 of R155: the ramp (R156). -/
def periodRamp (w : WorkingCopy) (s : State) : State :=
  s.setComposer
    { s.composer with
      ramped := rampOf w.ramp s.composer.ramped (min s.share.allowance s.composer.upperClamp.toNat) }

/-- Step 4 of R155: the target, clamped (R157). -/
def periodTarget (s : State) : State :=
  s.setComposer
    { s.composer with
      target :=
        clampInt s.composer.lowerClamp s.composer.upperClamp
          ((s.composer.ramped : Int) - s.share.discharge + s.reserve.response) }

/-- The conditioning window is open with Pcond above 0 (R162). -/
def State.heating (s : State) : Bool :=
  s.tracker.derived.any Derived.windowOpen && s.tracker.card.any fun c => decide (0 < c.pcond)

/-- Wake on a non-zero target (R160). -/
def periodWake (s : State) : State :=
  if s.composer.mode = .standby ∧ s.composer.target ≠ 0 then s.setComposer s.composer.wakeUp else s

/-- The condition under which the idle timer runs on (R162). -/
def State.idles (s : State) : Bool := s.composer.target == 0 && !s.accepting && !s.heating

/-- The idle timer of a period in RUN: it reaches IDLE seconds, runs on, or is cleared (R162). -/
def periodIdle (w : WorkingCopy) (s : State) : State :=
  if s.composer.mode = .run then
    if s.idles then
      if w.idle * 1000 ≤ s.composer.idleTimer + 100 then s.setComposer s.composer.standBy
      else s.setComposer { s.composer with idleTimer := s.composer.idleTimer + 100 }
    else s.setComposer { s.composer with idleTimer := 0 }
  else s

/-- Lending that ends within the period brings the lower clamp to 0 in that same period (R59, R157), and the clamped
target into the range again (assumption 42). -/
def periodOffer (s : State) : State :=
  s.setComposer
    { s.composer with
      lowerClamp := -(s.account.offer : Int), target := max (-(s.account.offer : Int)) s.composer.target }

/-- Step 5 of R155: the mode transitions due at the period; a STAGE_FAULT halt that ends lending ends it in this period
(R59). -/
def periodMode (w : WorkingCopy) (s : State) : State :=
  periodOffer (evaluateConverter (periodIdle w (periodWake s)))

/-- The lowest and the highest demand of the range of R158. -/
def demandLow (q : Nat) (lower : Int) : Int := -((q : Int) * ((-lower) / (q : Int)))

/-- The highest demand of the range of R158. -/
def demandHigh (q : Nat) (upper : Int) : Int := (q : Int) * (upper / (q : Int))

/-- The output of R158 before it is checked. -/
def ditherOf (q : Nat) (sum : Int) : Int := (q : Int) * (sum / (q : Int))

/-- The output and the residue of R158, from the clamped target and the residue carried. -/
def dithered (q : Nat) (lower upper target residue : Int) : Int × Int :=
  if ditherOf q (target + residue) < demandLow q lower then (demandLow q lower, 0)
  else if demandHigh q upper < ditherOf q (target + residue) then (demandHigh q upper, 0)
  else (ditherOf q (target + residue), target + residue - ditherOf q (target + residue))

/-- The conditions under which the demand is the output (R159). -/
def State.delivers (s : State) : Bool :=
  s.isPost && s.link.station == .running && s.tracker.readiness.linked
    && s.composer.mode == .run && s.composer.converter == some .ready && s.composer.settle == 0

/-- Step 6 of R155: the output and the residue, and the demand; a period that delivers nothing leaves no residue, and a
settle count above 0 is lowered (R158, R159, R161). -/
def periodDither (w : WorkingCopy) (s : State) : State :=
  let d := dithered w.qstep s.composer.lowerClamp s.composer.upperClamp s.composer.target s.composer.residue
  if s.delivers then s.setComposer { s.composer with output := d.1, residue := d.2, demand := d.1 }
  else s.setComposer { s.composer with output := d.1, residue := 0, demand := 0, settle := s.composer.settle - 1 }

/-- Step 7 of R155: the DEMAND is sent (R153). -/
def periodSend (s : State) : State :=
  s.setComposer { s.composer with tx := demandFrame s.composer.demand s.composer.mode }

/-- Step 8 of R155: the demand is handed to the vehicle line controller, whose PERMIT takes the place of one that still
waits (R11, R12). -/
def periodPermit (s : State) : State :=
  if s.tracker.readiness.linked then
    s.setVehicle
      { s.vehicle with
        waiting := withoutPermit s.vehicle.waiting ++ [.permit s.vehicle.session s.composer.demand] }
  else s

/-- The control period in the POST role (R155). DEDUCED: the steps after the first read A, the offer and the accepting
condition as a STAGE_SILENT halt of step 1 leaves them (assumption 41); a STAGE_FAULT halt of step 5 that closes the
gate brings the lower clamp to 0 and the target into the range, and leaves the upper clamp and Ar as steps 2 and 3 gave
them (assumption 42). -/
def controlPeriod (w : WorkingCopy) (s : State) : State :=
  periodPermit (periodSend (periodDither w (periodMode w
    (periodTarget (periodRamp w (periodClamps (periodSilence s)))))))

/-- One control period (R155); the METER role and the states without a working copy send no DEMAND (R152, R164). -/
def controlPeriodTaken (s : State) : State :=
  match s.store.working with
  | some w => if s.composes then controlPeriod w s else s
  | none => s

/-- CONTROL_PERIOD (R155). -/
def execControlPeriod (s : State) : Host.Outcome State Fault Refusal := .next (controlPeriodTaken s)

/-- STAGE_SILENT (R163): the fault is evaluated as at step 1 of R155, without a control period passing. -/
def execStageSilent (s : State) : Host.Outcome State Fault Refusal :=
  .next (if s.composes then evaluateSilence s else s)

/-- The idle timer has reached IDLE seconds in RUN (R160, R162). -/
def idleExpired (s : State) : State :=
  match s.store.working with
  | some w =>
    if s.composes && s.composer.mode == .run && decide (w.idle * 1000 ≤ s.composer.idleTimer) then
      s.setComposer s.composer.standBy
    else s
  | none => s

/-- IDLE_TIMER_EXPIRY (R162). -/
def execIdleTimerExpiry (s : State) : Host.Outcome State Fault Refusal := .next (idleExpired s)

/-- The stage mode returns to STANDBY by the wake timer: STAGE_TIMEOUT stands from now on (R160, R163, R166). -/
def Composer.timeOut (c : Composer) : Composer := { c.standBy with timedOut := true }

/-- The wake timer reaches 10 s: the mode returns to STANDBY and STAGE_TIMEOUT is evaluated (R160, R163). -/
def wakeExpired (s : State) : State :=
  if s.composer.wakeTimer = some wakeLimit then stageFault .stageTimeout (s.setComposer s.composer.timeOut) else s

/-- WAKE_TIMER_EXPIRY (R163). -/
def execWakeTimerExpiry (s : State) : Host.Outcome State Fault Refusal := .next (wakeExpired s)

/-- LENDABLE_UPDATE (R58): the account's own update once every control period. In the METER role the account is held at
its start-reset values (R50). -/
def execLendableUpdate (s : State) : Host.Outcome State Fault Refusal := .next (updateLending s)

/-- OFFER_COMPUTE (R142). -/
def execOfferCompute (s : State) : Host.Outcome State Fault Refusal := .next (computeOffers s)

end Sys2Proof.Machine
end

