-- ==== Sys2Proof/Machine/DepotLink.lean ====
section
/-! DEFINITION. The commands of the depot link: the link controller's timers, its transmissions and receptions, the
ageing of the peer table and the shed-hold timer (Chapters 4, 5, 6). -/

namespace Sys2Proof.Machine

/-! ## Timers (R69, R70, R71) -/

/-- The last allocation time at an entry to RUNNING: the time of entry in the POST role; in the METER role the item stays
at its start-reset value (R101, R104, R116). -/
def allocationStart (w : WorkingCopy) (now : Nat) (last : Option Nat) : Option Nat :=
  if w.role = .post then some now else last

/-- The station enters RUNNING: the sequence generator is seeded, the announce timer loaded, the last allocation time
set, and ALONE decided (R69, R92, R104). -/
def enterRunning (w : WorkingCopy) (s : State) : State :=
  decideAlone
    ((s.setLink
        (Link.loadAnnounceTimer w
          { s.link with station := .running, listenTimer := none, sequence := some (sequenceSeed w.station) })).setShare
      { s.share with lastAllocation := allocationStart w s.clock s.share.lastAllocation })

/-- The listen timer expires in LISTENING (R69). -/
def listenExpired (s : State) : State :=
  match s.store.working with
  | some w => if due s.link.listenTimer && s.link.station == .listening then enterRunning w s else s
  | none => s

/-- LISTEN_TIMER_EXPIRY (R69). -/
def execListenTimerExpiry (s : State) : Host.Outcome State Fault Refusal := .next (listenExpired s)

/-- The ANNOUNCE a post builds, every field as its owning block holds it (R71). -/
def State.postAnnounce (s : State) (w : WorkingCopy) : WireAnnounce where
  station := byteOf w.station
  role := byteOf Role.post.code
  flags :=
    flagsByte (s.vehicle.pilot != .none) (s.tracker.readiness == .halted) s.peers.alone s.share.shedHold
      (s.reserve.shortUp || s.reserve.shortDown)
  readiness := byteOf s.tracker.readiness.code
  urgency := byteOf s.tracker.urgency
  claim := wordOfNat s.tracker.claim
  held := wordOfNat s.share.held
  draw := wordOfInt s.composer.draw
  offerUp := wordOfNat s.reserve.offerUp
  offerDown := wordOfNat s.reserve.offerDown
  dischargeOffer := wordOfNat s.account.offer
  lendable := wordOfNat s.account.lendable
  feederLoad := 0

/-- The ANNOUNCE a meter builds: its role, the alone flag and the feeder load (R72). -/
def State.meterAnnounce (s : State) (w : WorkingCopy) : WireAnnounce where
  station := byteOf w.station
  role := byteOf Role.meter.code
  flags := flagsByte false false s.peers.alone false false
  readiness := 0
  urgency := 0
  claim := 0
  held := 0
  draw := 0
  offerUp := 0
  offerDown := 0
  dischargeOffer := 0
  lendable := 0
  feederLoad := wordOfNat ((s.composer.feederSample.getD 0).toNat)

/-- The ANNOUNCE the station builds now (R71, R72). -/
def State.ownAnnounce (s : State) (w : WorkingCopy) : WireAnnounce :=
  if w.role = .post then s.postAnnounce w else s.meterAnnounce w

/-- An ANNOUNCE is built and put in hand with attempt count 0 (R71, R73). -/
def putAnnounceInHand (w : WorkingCopy) (s : State) : State :=
  s.setLink
    { s.link with announceTimer := none, announceHand := some { frame := s.ownAnnounce w, attempts := 0 } }

/-- The announce timer expires (R71). -/
def announceExpired (s : State) : State :=
  match s.store.working with
  | some w => if due s.link.announceTimer && s.link.station == .running then putAnnounceInHand w s else s
  | none => s

/-- ANNOUNCE_TIMER_EXPIRY (R71). -/
def execAnnounceTimerExpiry (s : State) : Host.Outcome State Fault Refusal := .next (announceExpired s)

/-! ## Sending (R73 to R76) -/

/-- The idle time, in µs, that a frame with an attempt count requires (R73). -/
def requiredIdle (station attempts : Nat) : Nat := if attempts = 0 then lineIdle else lineIdle + station * 100

/-- Another station has driven the line since: its last stop bit ended `micros` µs ago (R66). -/
def Link.activityEnded (micros : Nat) (k : Link) : Link := { k with idleTime := micros }

/-- The transmitter senses the idle time of a line that the station does not drive (R66). The time that the line still
lacks passes in quiet; a time shorter than the one counted tells of another station's activity (assumption 26). -/
def senseIdle (micros : Nat) (s : State) : State :=
  if s.link.idleTime ≤ micros then s.elapse (micros - s.link.idleTime) else s.setLink (s.link.activityEnded micros)

/-- The receiver as an own frame starts: deaf, but for a reception that ended at this very instant, at which the line
became idle, and that is still to be decided (R66, R77, R79 step 4, R82). -/
def Link.receiverAtStart (k : Link) : Receiver := if k.idleTime = lineIdle then .ending else .deaf 0

/-- The station drives the line with an own frame (R73, R77). -/
def Link.drive (frame : OwnFrame) (receiver : Receiver) (characters : List Byte) (k : Link) : Link :=
  { k with transmitting := some frame, idleTime := 0, receiver := receiver, tx := characters }

/-- A SHED in hand is ready (R73). -/
def Link.shedReady (station : Nat) (k : Link) : Bool :=
  k.shedHand.any fun h => decide (requiredIdle station h.attempts ≤ k.idleTime)

/-- An ANNOUNCE in hand is ready (R73). -/
def Link.announceReady (station : Nat) (k : Link) : Bool :=
  k.announceHand.any fun h => decide (requiredIdle station h.attempts ≤ k.idleTime)

/-- The transmission of the SHED in hand starts (R73). -/
def Link.startShed (receiver : Receiver) (k : Link) : Link :=
  match k.shedHand with
  | some h =>
    Link.drive .shed receiver (shedFrame h.frame) { k with shedHand := some { h with attempts := h.attempts + 1 } }
  | none => k

/-- The transmission of the ANNOUNCE in hand starts (R73). -/
def Link.startAnnounce (receiver : Receiver) (k : Link) : Link :=
  match k.announceHand with
  | some h =>
    Link.drive .announce receiver (announceFrame h.frame)
      { k with announceHand := some { h with attempts := h.attempts + 1 } }
  | none => k

/-- A ready frame is sent, a SHED before an ANNOUNCE (R73). -/
def Link.startReady (station : Nat) (receiver : Receiver) (k : Link) : Link :=
  if k.shedReady station then k.startShed receiver
  else if k.announceReady station then k.startAnnounce receiver
  else k

/-- A ready frame is sent on the line as it has been sensed (R73). -/
def sendReady (s : State) : State := s.setLink (s.link.startReady s.stationNumber s.link.receiverAtStart)

/-- The transmitter senses the idle time of a line that the station does not drive, and in RUNNING sends a ready frame
(R66, R73). -/
def transmissionStarted (micros : Nat) (s : State) : State :=
  if s.link.transmitting = none then
    if s.link.station = .running then sendReady (senseIdle micros s) else senseIdle micros s
  else s

/-- TRANSMISSION_START (R73). -/
def execTransmissionStart (idleMicros : Nat) (s : State) : Host.Outcome State Fault Refusal :=
  .next (transmissionStarted idleMicros s)

/-- The SHED that waits behind takes the place of the one that leaves the hand (R76). -/
def Link.nextShed (k : Link) : Link :=
  { k with shedHand := k.shedBehind.map fun f => { frame := f, attempts := 0 }, shedBehind := none }

/-- The own ANNOUNCE has left the hand: the announce timer is loaded and the allocation event handed on (R75). -/
def announceLeaves (w : WorkingCopy) (s : State) : State :=
  allocationEvent (s.setLink (Link.loadAnnounceTimer w { s.link with announceHand := none }))

/-- A collided ANNOUNCE is kept for another attempt, or dropped after four (R74, R75). -/
def collidedAnnounce (w : WorkingCopy) (attempts : Nat) (s : State) : State :=
  if attempts < 4 then s
  else announceLeaves w (s.setLink { s.link with dropped := bump 65535 s.link.dropped })

/-- A collided SHED gives way to one that waits behind it, is kept for another attempt, or is dropped after four (R74 to
R76). -/
def Link.collidedShed (attempts : Nat) (k : Link) : Link :=
  if k.shedBehind.isSome then k.nextShed
  else if attempts < 4 then k
  else { k with shedHand := none, dropped := bump 65535 k.dropped }

/-- The transmission is abandoned and counted (R74, steps 1 and 2). -/
def Link.abandon (k : Link) : Link := { k.stopDriving with collisions := bump 65535 k.collisions }

/-- A read-back disagreement ends the transmission (R74). -/
def collided (s : State) : State :=
  match s.link.transmitting, s.store.working with
  | some .announce, some w =>
    collidedAnnounce w (s.link.announceHand.elim 0 AnnounceInHand.attempts) (s.setLink s.link.abandon)
  | some .shed, some _ =>
    s.setLink (s.link.abandon.collidedShed (s.link.shedHand.elim 0 ShedInHand.attempts))
  | _, _ => s

/-- COLLISION (R74). -/
def execCollision (s : State) : Host.Outcome State Fault Refusal := .next (collided s)

/-- An own frame is complete and leaves the hand (R75, R76). -/
def completed (s : State) : State :=
  match s.link.transmitting, s.store.working with
  | some .announce, some w => announceLeaves w (s.setLink s.link.stopDriving)
  | some .shed, some _ => s.setLink s.link.stopDriving.nextShed
  | _, _ => s

/-- TRANSMISSION_COMPLETE (R75). -/
def execTransmissionComplete (s : State) : Host.Outcome State Fault Refusal := .next (completed s)

/-! ## Receiving (R77 to R80) -/

/-- A valid frame has been received: it is counted (R77). -/
def countGood (s : State) : State := s.setLink { s.link with goodFrames := bump 65535 s.link.goodFrames }

/-- The frame carries this station's number; in LOADING and UNCONFIGURED the station has none (R68, R78). -/
def State.ownNumber (s : State) (station : Byte) : Bool :=
  s.store.working.any fun w => w.station == station.toNat

/-- A valid ANNOUNCE, by the station number and the station state (R78). -/
def routeAnnounce (f : WireAnnounce) (s : State) : State :=
  match s.link.station with
  | .loading => s
  | .unconfigured => s
  | .listening => if s.ownNumber f.station then enterClash s else storeAnnounce f s
  | .running => if s.ownNumber f.station then enterClash s else storeAnnounce f s
  | .clash => if s.ownNumber f.station then s else storeAnnounce f s

/-- A valid SHED from another station is handed to the share engine (R78). -/
def handShed (f : WireShed) (s : State) : State :=
  match s.store.working with
  | some w => takeShed w f.fraction.toNat s
  | none => s

/-- A valid SHED, by the station number and the station state (R78). -/
def routeShed (f : WireShed) (s : State) : State :=
  match s.link.station with
  | .loading => s
  | .unconfigured => s
  | .listening => if s.ownNumber f.station then enterClash s else handShed f s
  | .running => if s.ownNumber f.station then enterClash s else handShed f s
  | .clash => s

/-- The end of a reception with what it was found to be (R77, R78, R81). -/
def decideReception (r : Reception) (s : State) : State :=
  match r with
  | .crcError => s.setLink { s.link with crcErrors := bump 65535 s.link.crcErrors }
  | .malformed => s.setLink { s.link with malformed := bump 65535 s.link.malformed }
  | .announce f => routeAnnounce f (countGood s)
  | .shed f => routeShed f (countGood s)

/-- The least time a reception lasts, in µs: its delimiter, its characters, and the time in which the line becomes idle
again. Noise without a character may be shorter than any delimiter (R66). -/
def receptionTime (characters : Nat) : Nat := if characters = 0 then lineIdle else 48 + characters * 40 + lineIdle

/-- The µs that must yet pass until a reception can end at which a deaf receiver hears again: the line becomes idle after
the own transmission, and a fresh reception follows (R66, R77, assumption 27). -/
def Link.receptionWait (fresh : Bool) (characters : Nat) (k : Link) : Nat :=
  match k.receiver with
  | .hearing => 0
  | .ending => 0
  | .deaf quiet =>
    if k.transmitting = none then lineIdle + (if fresh then receptionTime characters else 0) - quiet else 0

/-- The receiver delivers a reception that ends now: a deaf one delivers what began after the line was idle again, and
during an own transmission nothing but the reception that ended as it started (R77). -/
def Link.hears (fresh : Bool) (k : Link) : Bool :=
  match k.receiver with
  | .hearing => true
  | .ending => fresh
  | .deaf _ => fresh && k.transmitting.isNone

/-- The line as a reception ends: it becomes idle at that instant and the receiver hears what begins on it, unless an own
frame has started at the same instant (R66, R77). -/
def Link.afterReception (k : Link) : Link :=
  if k.receiver = .ending then { k with receiver := .deaf 0 }
  else if k.transmitting = none then { k with idleTime := lineIdle, receiver := .hearing }
  else k

/-- The line at the end of a reception, the time that must pass until then gone by (R66, R77). -/
def receptionEnds (fresh : Bool) (characters : Nat) (s : State) : State :=
  (s.elapse (s.link.receptionWait fresh characters)).setLink
    (s.elapse (s.link.receptionWait fresh characters)).link.afterReception

/-- A reception ends (R66, R77). One that the receiver does not deliver is neither checked nor counted. -/
def receive (fresh : Bool) (characters : Nat) (r : Reception) (s : State) : State :=
  if s.link.hears fresh then decideReception r (receptionEnds fresh characters s)
  else receptionEnds fresh characters s

/-- RECEPTION_END (R77): the characters decide. The reception's characters are those already in the receive buffer,
then these; the buffer is free again at the decision (4.5). -/
def execReceptionEnd (characters : Heard (List Byte)) (s : State) : Host.Outcome State Fault Refusal :=
  .next (receive characters.fresh (s.link.receiveBuffer ++ characters.content).length
    (receptionOf (s.link.receiveBuffer ++ characters.content)) (s.setLink { s.link with receiveBuffer := [] }))

/-- ANNOUNCE_RECEIVED (R86): an ANNOUNCE whose CRC, kind and length are right; its station number and role are checked
by R77. -/
def execAnnounceReceived (frame : Heard WireAnnounce) (s : State) : Host.Outcome State Fault Refusal :=
  .next (receive frame.fresh (announceFrame frame.content).length (judgeAnnounce frame.content) s)

/-- SHED_RECEIVED (R122): a SHED whose CRC, kind and length are right; its station number and shed fraction are checked
by R77. -/
def execShedReceived (frame : Heard WireShed) (s : State) : Host.Outcome State Fault Refusal :=
  .next (receive frame.fresh (shedFrame frame.content).length (judgeShed frame.content) s)

/-! ## Ageing and shed-hold (R87, R123) -/

/-- The entry of a station is removed, and ALONE is decided (R87, R92). -/
def removeEntry (station : Nat) (s : State) : State :=
  decideAlone (s.setPeers { s.peers with entries := dropPeer station s.peers.entries })

/-- The entry of a station has reached T_sil and its removal is due. An ANNOUNCE taken first has returned its age to 0,
and the removal does not happen (R87, R88). -/
def State.entryDue (s : State) (station : Nat) : Bool :=
  (s.peers.entries.find? fun p => p.station == station).any fun p => decide (s.silentTime ≤ p.age)

/-- The age of a station's entry reaches T_sil (R87). -/
def entryExpired (station : Nat) (s : State) : State :=
  if s.link.station.active && s.entryDue station then removeEntry station s else s

/-- PEER_ENTRY_EXPIRY (R87). -/
def execPeerEntryExpiry (station : Nat) (s : State) : Host.Outcome State Fault Refusal :=
  .next (entryExpired station s)

/-- Shed-hold becomes OFF and the cap no longer applies; A is not changed (R123). -/
def endShedHold (s : State) : State := s.setShare { s.share with shedHold := false, shedTimer := none }

/-- The shed-hold timer expires (R123). -/
def shedHoldExpired (s : State) : State := if due s.share.shedTimer then endShedHold s else s

/-- SHED_HOLD_EXPIRY (R123). -/
def execShedHoldExpiry (s : State) : Host.Outcome State Fault Refusal := .next (shedHoldExpired s)

end Sys2Proof.Machine
end

