-- ==== Sys2Proof/Machine/Mains.lean ====
section
/-! DEFINITION. The commands of the mains sense: rising edges and the edge timeout (7.2). -/

namespace Sys2Proof.Machine

/-- A measurement in progress after one more edge at `t` (R132). -/
def Measurement.edge (t : Nat) (m : Measurement) : Measurement :=
  { m with edges := m.edges + 1, periodSum := t - m.start }

/-- A measurement that starts at an edge (R132). -/
def Measurement.startAt (t : Nat) : Measurement := { start := t, edges := 0, periodSum := 0 }

/-- The edge starts a measurement and restarts the edge timeout (R132, R133). -/
def startMeasurement (t : Nat) (s : State) : State :=
  s.setReserve
    { s.reserve with measurement := some (Measurement.startAt t), edgeTimeout := some edgeTimeoutTime }

/-- A rising edge with a measurement in progress: it counts, or completes the measurement and starts the next (R132). -/
def countEdge (w : WorkingCopy) (t : Nat) (m : Measurement) (s : State) : State :=
  if cycleCount w ≤ (m.edge t).edges then
    judgeMeasurement w (frequencyOf (cycleCount w) (m.edge t).periodSum) (startMeasurement t s)
  else
    s.setReserve { s.reserve with measurement := some (m.edge t), edgeTimeout := some edgeTimeoutTime }

/-- A rising edge of the mains sense; ignored in LOADING and UNCONFIGURED (R132). -/
def mainsEdgeTaken (s : State) : State :=
  match s.store.working with
  | some w =>
    if s.link.station.active then
      match s.reserve.measurement with
      | none => startMeasurement s.clock s
      | some m => countEdge w s.clock m s
    else s
  | none => s

/-- The edge comes at its time on the part's timebase: the µs until then pass (R2, assumption 15). -/
def State.edgeTime (timeMicros : Nat) (s : State) : State := s.elapse (timeMicros - s.clock)

/-- MAINS_EDGE (R132). -/
def execMainsEdge (timeMicros : Nat) (s : State) : Host.Outcome State Fault Refusal :=
  .next (mainsEdgeTaken (s.edgeTime timeMicros))

/-- The measurement in progress is abandoned, an implausible measurement with no frequency is judged, and the timeout
is started again (R133). -/
def abandonMeasurement (w : WorkingCopy) (s : State) : State :=
  judgeMeasurement w none
    (s.setReserve { s.reserve with measurement := none, edgeTimeout := some edgeTimeoutTime })

/-- The edge timeout expires (R133). -/
def edgeTimedOut (s : State) : State :=
  match s.store.working with
  | some w => if due s.reserve.edgeTimeout && s.link.station.active then abandonMeasurement w s else s
  | none => s

/-- EDGE_TIMEOUT (R133). -/
def execEdgeTimeout (s : State) : Host.Outcome State Fault Refusal := .next (edgeTimedOut s)

end Sys2Proof.Machine
end

