-- ==== Sys2Proof/Machine/Configuration.lean ====
section
/-! DEFINITION. The commands of the configuration memory: start reset, the end of a load, memory timeouts and the pages
of a write-back; and the service restart the store carries out (Chapter 9). -/

namespace Sys2Proof.Machine

/-! ## Load (R170, R171) -/

/-- The store holds the working copy of its shadow (R171). -/
def Store.configure (st : Store) : Store :=
  { st with
    working := some (formCopy st.shadow)
    clamped := copyClamped st.shadow
    loadResult := if copyClamped st.shadow then .loadedClamped else .loaded }

/-- The store holds no working copy, for a structural error (R170). -/
def Store.fail (e : LoadResult) (st : Store) : Store :=
  { st with working := none, clamped := false, loadResult := e }

/-- CONFIG_CLAMPED is raised if a field was clamped (R171). -/
def raiseClamped (s : State) : State := if s.store.clamped then raise .configClamped s else s

/-- The load or the restart ends with a structural error (R170, R176). -/
def endWithError (e : LoadResult) (s : State) : State := enterUnconfigured (s.setStore (s.store.fail e))

/-- The load or the restart ends with a working copy (R170, R171, R176). -/
def endWithCopy (s : State) : State :=
  enterListening (formCopy s.store.shadow) (raiseClamped (s.setStore s.store.configure))

/-- The structural checks on the shadow decide how the load or the restart ends (R170, R176). -/
def endLoad (s : State) : State := (structuralError s.store.shadow).elim (endWithCopy s) fun e => endWithError e s

/-- The memory has answered every read: the shadow holds its first 256 bytes (R170). -/
def loadCompleted (s : State) : State :=
  if s.link.station = .loading then endLoad (s.setStore { s.store with shadow := below 256 s.store.memory }) else s

/-- LOAD_COMPLETE (R170). -/
def execLoadComplete (s : State) : Host.Outcome State Fault Refusal := .next (loadCompleted s)

/-! ## Write-back (R174, R175) -/

/-- A byte of a page whose write was cut off or unanswered: the shadow's or the one the memory held (R174, R175). -/
def tornByte (draw page : Nat) (shadow m : Mem) (position : Nat) : Byte :=
  readByte (if Config.tornIsNew draw position then shadow else m) (16 * page + position)

/-- A page of the memory left as a cut-off or unanswered write leaves it: old bytes, new bytes or a mixture (R174, R175,
assumption 4). DESIGN CHOICE: bytes 254 and 255 of page 15 are drawn like every other byte, by the table of R175, so the
load after a start reset may find the new CRC; the paragraph below that table keeps it unwritten until page 15 has been
read back. -/
def tornPage (draw page : Nat) (shadow m : Mem) : Mem :=
  writeBytes m (16 * page) ((List.range 16).map (tornByte draw page shadow m))

/-- The page being written is left torn (R174, R175). -/
def tearPage (s : State) : State :=
  (s.setStore
    { s.store with memory := tornPage s.freeDraws s.store.writebackPage s.store.shadow s.store.memory }).drawn

/-- The write-back fails at its current page (R174). -/
def failWriteback (s : State) : State :=
  raise .writebackFailed
    (s.setStore
      { s.store with
        writebackRunning := false, writebackResult := .failed, failingPage := s.store.writebackPage })

/-- The write-back completes (R174). -/
def finishWriteback (s : State) : State :=
  raise .writebackDone
    (s.setStore { s.store with writebackRunning := false, writebackResult := .done, failingPage := 0 })

/-- The page read back equals the shadow's: the write-back advances, or completes at page 15 (R174). -/
def pageMatched (s : State) : State :=
  if 15 ≤ s.store.writebackPage then finishWriteback s
  else s.setStore { s.store with writebackPage := s.store.writebackPage + 1 }

/-- The page of the memory holds the bytes it gives when read back (R174, assumption 8). -/
def pageWritten (bytes : List Byte) (s : State) : State :=
  s.setStore { s.store with memory := writeBytes s.store.memory (16 * s.store.writebackPage) bytes }

/-- A page has been written and read back (R174). -/
def pageReadBack (bytes : List Byte) (s : State) : State :=
  if s.store.writebackRunning then
    if bytes = pageBytes s.store.shadow s.store.writebackPage then pageMatched (pageWritten bytes s)
    else failWriteback (pageWritten bytes s)
  else s

/-- WRITEBACK_PAGE_DONE (R174). -/
def execWritebackPageDone (readBack : Page) (s : State) : Host.Outcome State Fault Refusal :=
  .next (pageReadBack readBack.toList s)

/-- A memory access goes unanswered: the load fails with NO_ANSWER and the unread shadow bytes are 0, or the write-back
fails at its current page (R170, R174). A load reads 256 bytes, so at most 255 were answered. -/
def memoryTimedOut (answered : Nat) (s : State) : State :=
  if s.link.station = .loading then
    endWithError .noAnswer (s.setStore { s.store with shadow := below (min answered 255) s.store.memory })
  else if s.store.writebackRunning then failWriteback (tearPage s)
  else s

/-- CONFIG_MEMORY_TIMEOUT (R170, R174). -/
def execConfigMemoryTimeout (answered : Nat) (s : State) : Host.Outcome State Fault Refusal :=
  .next (memoryTimedOut answered s)

/-! ## Start reset (1.3, R175) -/

/-- A start reset stops a write-back, the page being written left torn (R175). -/
def cutWriteback (s : State) : State := if s.store.writebackRunning then tearPage s else s

/-- A start reset: every block in its start-reset state, LOADING entered. The external memory, the count of free values
and the queue of commands are outside the part and stay (1.3, R170). -/
def startReset (s : State) : State :=
  ((State.reset.setStore (Store.reset (cutWriteback s).store.memory)).setFreeDraws
    (cutWriteback s).freeDraws).setPending s.pending

/-- START_RESET (R170). -/
def execStartReset (s : State) : Host.Outcome State Fault Refusal := .next (startReset s)

/-! ## Service restart (R176) -/

/-- The vehicle line controller at a service restart (R11, R26). -/
def VehicleLine.restart (v : VehicleLine) : VehicleLine :=
  VehicleLine.clearSession
    { v with
      helloTimer := none
      watchdog := none
      waiting := v.waiting.filter ForwardFrame.isStop ++ (if v.sessionOpen then [.stop v.session .restart] else [])
      loopResult := .none
      loopIndex := 0
      loopErrors := 0
      loopWindow := none }

/-- The receiver at a service restart: it discards a reception in progress, and delivers what begins after the restart
on a line that is idle again after an own transmission (R77, R84, assumption 27). -/
def Receiver.restart : Receiver → Receiver
  | .deaf quiet => .deaf (min quiet lineIdle)
  | .hearing => .deaf lineIdle
  | .ending => .deaf lineIdle

/-- The link controller at a service restart; its counters keep their values (R84). -/
def Link.restart (k : Link) : Link :=
  { k.stopDriving with
    listenTimer := none, announceTimer := none, sequence := none, announceHand := none, shedHand := none,
    shedBehind := none, receiver := k.stopDriving.receiver.restart, receiveBuffer := [] }

/-- The attention pending set is emptied and the line armed (R176, step 1, R183). -/
def clearAttention (s : State) : State := s.setService { s.service with pendingCauses := 0, armed := true }

/-- The blocks release their state for a service restart (R176, step 2: R26, R49, R64, R84, R100, R130, R151, R168). -/
def releaseBlocks (s : State) : State :=
  (((((((s.setVehicle s.vehicle.restart).setTracker s.tracker.vacate).setAccount Account.reset).setLink
    s.link.restart).setPeers PeerTable.reset).setShare Share.reset).setReserve Reserve.reset).setComposer Composer.reset

/-- The shadow with its CRC recomputed; the write-back page returns to 0 (R176, step 3, R177). -/
def Store.resealed (st : Store) : Store := { st with shadow := withImageCrc st.shadow, writebackPage := 0 }

/-- The store recomputes the shadow's CRC (R176, step 3). -/
def resealShadow (s : State) : State := s.setStore s.store.resealed

/-- The service restart (R176). -/
def serviceRestart (s : State) : State := endLoad (resealShadow (releaseBlocks (clearAttention s)))

end Sys2Proof.Machine
end

