-- ==== Sys2Proof/Machine/Items.lean ====
section
/-! DEFINITION. The data of the service port's items (10.10). Fields are sent in the order listed; the widths the manual
leaves to be inferred are in assumption 9. -/

namespace Sys2Proof.Machine

/-- Item 1's time left in whole ms: the listen timer's in LISTENING, the announce timer's in RUNNING, 0 otherwise
(10.10). -/
def State.timeLeft (s : State) : Nat :=
  match s.link.station with
  | .listening => wholeMillis (s.link.listenTimer.getD 0)
  | .running => wholeMillis (s.link.announceTimer.getD 0)
  | .loading => 0
  | .unconfigured => 0
  | .clash => 0

/-- Item 1: station state (R67, R89). -/
def itemStation (s : State) : List Byte :=
  [byteOf s.link.station.code, byteOf (s.role.elim 0 Role.code), byteOf s.stationNumber] ++ nat32 s.timeLeft
    ++ [byteOf s.peers.entries.length, flagByte s.peers.alone,
        byteOf ((governingMeter s.peers.entries).elim 0 Peer.station)]

/-- A stored card in the layout of 10.6. -/
def RunCard.bytes (c : RunCard) : List Byte :=
  nat16 c.departure ++ nat16 c.eroute ++ [flagByte c.conditioning.isSome] ++ nat16 c.pcond
    ++ [byteOf (c.conditioning.elim 0 Conditioning.tcond)]

/-- Item 2: readiness (R47). -/
def itemReadiness (s : State) : List Byte :=
  [byteOf s.tracker.readiness.code] ++ mayBeAbsent 8 RunCard.bytes s.tracker.card
    ++ nat16 (s.tracker.countdown.getD 0)
    ++ mayBeAbsent 4 (fun n : Nat => int32 n) (s.tracker.derived.map Derived.efloor)
    ++ mayBeAbsent 4 (fun n : Nat => int32 n) (s.tracker.derived.bind Derived.egap)
    ++ mayBeAbsent 2 nat16 (s.tracker.derived.map Derived.pmax)
    ++ mayBeAbsent 2 nat16 (s.tracker.derived.bind Derived.tmin)
    ++ mayBeAbsent 4 int32 (s.tracker.derived.bind Derived.slack)
    ++ mayBeAbsent 1 (fun b => [flagByte b]) (s.tracker.derived.map Derived.windowOpen)
    ++ mayBeAbsent 2 nat16 (s.tracker.derived.map Derived.etarget)
    ++ [byteOf s.tracker.urgency] ++ nat16 s.tracker.claim ++ nat16 s.tracker.atRiskMinutes
    ++ mayBeAbsent 1 (fun o => [byteOf o.code]) s.tracker.outcome
    ++ mayBeAbsent 1 (fun r => [byteOf r.code]) s.tracker.haltReason

/-- The last STATUS with its undefined flag bits sent as 0 (R184). -/
def sentStatus (t : WireStatus) : List Byte := statusBytes { t with flags := t.flags &&& 0x07 }

/-- Item 3: vehicle status (R4, R5, R8, R18, 10.10). -/
def itemVehicle (s : State) : List Byte :=
  [byteOf s.vehicle.pilot.code, byteOf s.vehicle.proximity.code, byteOf s.vehicle.earth.code, s.vehicle.session,
   byteOf s.vehicle.helloCount, flagByte s.vehicle.watchdog.isSome]
    ++ mayBeAbsent 6 (fun id : VehicleId => id.toList) s.vehicle.vehicleId
    ++ mayBeAbsent 10 sentStatus s.vehicle.lastStatus

/-- Item 4: energy account (R65). -/
def itemAccount (s : State) : List Byte :=
  mayBeAbsent 2 nat16 s.account.enow ++ mayBeAbsent 2 nat16 s.eveh
    ++ mayBeAbsent 2 nat16 (s.vehicle.lastStatus.map fun t => t.ecap.toNat)
    ++ int16 s.account.delta ++ int32 s.account.deltaResidue
    ++ nat16 s.account.energyIn ++ int32 s.account.inResidue
    ++ nat16 s.account.energyOut ++ int32 s.account.outResidue
    ++ nat16 s.account.lendable ++ [byteOf s.account.gate.code] ++ nat16 s.account.offer ++ nat16 s.pvdis

/-- The history as a count and three deviations, an absent one 0 (10.10). -/
def historyBytes (h : List Int) : List Byte :=
  [byteOf h.length] ++ int16 (h.getD 0 0) ++ int16 (h.getD 1 0) ++ int16 (h.getD 2 0)

/-- Item 5: reserve (R149). -/
def itemReserve (s : State) : List Byte :=
  [byteOf s.reserve.state.code] ++ mayBeAbsent 4 nat32 s.reserve.lastFrequency ++ [flagByte (!s.reserve.plausible)]
    ++ historyBytes s.reserve.history ++ int16 s.reserve.active ++ nat16 s.reserve.droop
    ++ [byteOf s.reserve.implausibleCount, byteOf s.reserve.recoveryCount]
    ++ nat16 s.reserve.offerUp ++ nat16 s.reserve.offerDown ++ nat16 s.reserve.upShare ++ nat16 s.reserve.downShare
    ++ [flagByte s.reserve.shortUp, flagByte s.reserve.shortDown] ++ int16 s.reserve.response

/-- The budget record: g, the source of S, M where used, D, S, Hraw, B and X (R106, 10.10). -/
def Budget.bytes (b : Budget) : List Byte :=
  nat16 b.guard ++ [byteOf (b.meter.getD 0)] ++ mayBeAbsent 2 nat16 b.feederLoad ++ int32 b.totalDraw
    ++ int32 b.siteLoad ++ int32 b.headroom ++ nat16 b.budget ++ int32 b.overdraw

/-- The list of R126. T_left is sent as 0 while tenure is OFF, and the shed-hold time as 0 while shed-hold is OFF
(10.10). The shed-hold time is sent in ms in 4 bytes (assumption 9). -/
def shareBytes (s : State) : List Byte :=
  nat16 s.share.allowance ++ nat16 s.share.held ++ [flagByte s.share.tenure]
    ++ int32 (if s.share.tenure then s.share.tenureLeft else 0)
    ++ nat16 s.share.discharge ++ [flagByte s.share.contested] ++ nat32 s.share.interval
    ++ mayBeAbsent 24 Budget.bytes s.share.budget
    ++ [flagByte s.share.shedHold] ++ nat32 (if s.share.shedHold then wholeMillis (s.share.shedTimer.getD 0) else 0)
    ++ nat16 s.share.shedCap
    ++ [byteOf s.share.overloadCount, flagByte s.share.shedding] ++ mayBeAbsent 2 nat16 s.share.lastFraction

/-- The list of R166, ending with the three stage fault conditions standing and the latest feeder sample. The idle and
wake timers are sent in ms in 4 bytes (assumption 9). -/
def composerBytes (s : State) : List Byte :=
  nat16 s.composer.ramped ++ int16 s.composer.upperClamp ++ int16 s.composer.lowerClamp ++ int16 s.composer.target
    ++ int16 s.composer.output ++ int16 s.composer.residue ++ int16 s.composer.demand
    ++ [byteOf s.composer.mode.code] ++ mayBeAbsent 1 (fun c => [byteOf c.code]) s.composer.converter
    ++ int16 s.composer.draw ++ mayBeAbsent 1 (fun t => [BitVec.ofInt 8 t]) s.composer.temperature
    ++ [byteOf s.composer.derateIndex] ++ nat16 s.composer.derateFactor ++ nat16 s.composer.pderated
    ++ [byteOf s.composer.settle] ++ nat32 s.composer.idleTimer ++ nat32 (wholeMillis (s.composer.wakeTimer.getD 0))
    ++ [byteOf s.composer.silentCount]
    ++ [flagByte (decide (5 ≤ s.composer.silentCount)), flagByte (s.composer.converter == some .fault),
        flagByte (s.composer.timedOut || s.composer.wakeTimer == some wakeLimit)]
    ++ mayBeAbsent 2 int16 s.composer.feederSample

/-- Item 6: composer values (R126, R166). -/
def itemComposer (s : State) : List Byte := shareBytes s ++ composerBytes s

/-- Item 7: a peer entry: station number, role, the ANNOUNCE fields from offset 2 as stored, age in whole ms (R89). -/
def itemPeer (p : Peer) : List Byte :=
  [byteOf p.station, byteOf p.role.code, p.flags, byteOf p.readiness, byteOf p.urgency]
    ++ nat16 p.claim ++ nat16 p.held ++ int16 p.draw ++ nat16 p.offerUp ++ nat16 p.offerDown
    ++ nat16 p.dischargeOffer ++ nat16 p.lendable ++ nat16 p.feederLoad ++ nat32 (wholeMillis p.age)

/-- Item 8: link counters (R81). -/
def itemLink (s : State) : List Byte :=
  nat16 s.link.goodFrames ++ nat16 s.link.crcErrors ++ nat16 s.link.malformed ++ nat16 s.link.collisions
    ++ nat16 s.link.dropped

/-- Item 9: vehicle counters (R21, R24). -/
def itemCounters (s : State) : List Byte :=
  [byteOf s.vehicle.crcErrors, byteOf s.vehicle.loopResult.code] ++ nat16 s.vehicle.loopErrors

/-- The fields of the last-session record (R45). -/
def LastSession.bytes (r : LastSession) : List Byte :=
  mayBeAbsent 6 (fun id : VehicleId => id.toList) r.vehicleId ++ [byteOf r.outcome.code] ++ nat16 r.energyIn
    ++ nat16 r.energyOut ++ nat16 r.atRiskMinutes ++ mayBeAbsent 1 (fun h => [byteOf h.code]) r.haltReason

/-- Item 10: last-session record: the empty flag, then the fields, 0 while the record is empty (R45). -/
def itemRecord (s : State) : List Byte :=
  match s.tracker.record with
  | some r => 0 :: r.bytes
  | none => 1 :: List.replicate 16 0

/-- Item 12: working-copy clamped flag, load result and write-back state (R171, R174). -/
def itemStore (s : State) : List Byte :=
  [flagByte s.store.clamped, byteOf s.store.loadResult.code, flagByte s.store.writebackRunning,
   byteOf s.store.writebackPage, byteOf s.store.writebackResult.code, byteOf s.store.failingPage]

/-- The data of an item that takes index 0 alone; none for a code outside the table of 10.10 and for items 7 and 11. -/
def plainItem (item : Nat) (s : State) : Option (List Byte) :=
  match item with
  | 1 => some (itemStation s)
  | 2 => some (itemReadiness s)
  | 3 => some (itemVehicle s)
  | 4 => some (itemAccount s)
  | 5 => some (itemReserve s)
  | 6 => some (itemComposer s)
  | 8 => some (itemLink s)
  | 9 => some (itemCounters s)
  | 10 => some (itemRecord s)
  | 12 => some (itemStore s)
  | _ => none

/-- The data a READ_ITEM gives; none is answered RANGE (R89, R180). -/
def itemData (item index : Nat) (s : State) : Option (List Byte) :=
  if item = 7 then s.peers.entries[index]?.map itemPeer
  else if item = 11 then (if index ≤ 15 then some (pageBytes s.store.shadow index) else none)
  else if index = 0 then plainItem item s
  else none

end Sys2Proof.Machine
end

