-- ==== Sys2Proof/Machine/ServicePort.lean ====
section
/-! DEFINITION. The commands of the service port: the requests of R179, read transfers and invalid requests
(Chapter 10, R22, R24, R172, R173, R176). -/

namespace Sys2Proof.Machine

/-- READ_ITEM (R180). -/
def takeReadItem (item index : Byte) (s : State) : State :=
  match itemData item.toNat index.toNat s with
  | some data => respond 6 .ok data s
  | none => respond 6 .rangeError [] s

/-- The status of a WRITE_SHADOW: the first condition of R172 that applies. -/
def writeShadowStatus (offset count : Nat) (s : State) : Status :=
  if count = 0 ∨ 16 < count ∨ 256 < offset + count then .rangeError
  else if s.link.station = .loading ∨ s.store.writebackRunning then .busy
  else if offset < 16 * s.protectCount then .protectedPage
  else .ok

/-- WRITE_SHADOW (R172). -/
def takeWriteShadow (offset : Byte) (data : List Byte) (s : State) : State :=
  if writeShadowStatus offset.toNat data.length s = .ok then
    respond (5 + data.length) .ok []
      (s.setStore { s.store with shadow := writeBytes s.store.shadow offset.toNat data })
  else respond (5 + data.length) (writeShadowStatus offset.toNat data.length s) [] s

/-- The status of a WRITEBACK: the first line of R173 that applies. -/
def writebackStatus (s : State) : Status :=
  if s.link.station = .loading then .busy
  else if s.store.writebackRunning then .busy
  else if s.tracker.readiness ≠ .vacant then .busy
  else if s.loopRunning then .busy
  else if s.protectCount = 16 then .protectedPage
  else .ok

/-- A write-back starts: the CRC recomputed into the shadow, the page at the effective protect count (R173, R174). -/
def startWriteback (s : State) : State :=
  s.setStore
    { s.store with
      shadow := withImageCrc s.store.shadow, writebackRunning := true, writebackPage := s.protectCount }

/-- WRITEBACK (R173). -/
def takeWriteback (s : State) : State :=
  if writebackStatus s = .ok then respond 4 .ok [] (startWriteback s) else respond 4 (writebackStatus s) [] s

/-- RESTART (R176): the response is built before the restart is carried out (R179). -/
def takeRestart (s : State) : State :=
  if s.link.station = .loading ∨ s.store.writebackRunning then respond 4 .busy [] s
  else serviceRestart (respond 4 .ok [] s)

/-- The status of a LOOPTEST_START (R22). -/
def looptestStatus (s : State) : Status :=
  if s.loopRunning then .busy
  else if s.tracker.readiness = .vacant ∧ s.vehicle.pilot = .none ∧ s.vehicle.proximity = .closed then .ok
  else .refused

/-- LOOPTEST_START (R22). -/
def takeLooptestStart (s : State) : State :=
  if looptestStatus s = .ok then respond 4 .ok [] (s.setVehicle s.vehicle.startLoopTest)
  else respond 4 (looptestStatus s) [] s

/-- LOOPTEST_STOP (R24). -/
def takeLooptestStop (s : State) : State :=
  if s.loopRunning then respond 4 .ok [] (abortLoopTest s) else respond 4 .refused [] s

/-- The pending set in 2 bytes (10.9). -/
def pendingBytes (set : BitVec 12) : List Byte := bytesOfWord (set.setWidth 16)

/-- ATTN_READ (R182). -/
def takeAttnRead (s : State) : State :=
  respond 4 .ok (pendingBytes s.service.pendingCauses)
    (s.setService { s.service with pendingCauses := 0, armed := false })

/-- ATTN_REARM (R182). -/
def takeAttnRearm (s : State) : State := respond 4 .ok [] (s.setService { s.service with armed := true })

/-- A request is taken (R179). -/
def takeRequest (r : Request) (s : State) : State :=
  match r with
  | .readItem item index => takeReadItem item index s
  | .writeShadow offset data => takeWriteShadow offset data s
  | .writeback => takeWriteback s
  | .restart => takeRestart s
  | .looptestStart => takeLooptestStart s
  | .looptestStop => takeLooptestStop s
  | .attnRead => takeAttnRead s
  | .attnRearm => takeAttnRearm s

/-- LOOPTEST_START (R22). -/
def execLooptestStart (s : State) : Host.Outcome State Fault Refusal := .next (takeRequest .looptestStart s)

/-- LOOPTEST_STOP (R24). -/
def execLooptestStop (s : State) : Host.Outcome State Fault Refusal := .next (takeRequest .looptestStop s)

/-- READ_ITEM (R180). -/
def execReadItem (item index : Byte) (s : State) : Host.Outcome State Fault Refusal :=
  .next (takeRequest (.readItem item index) s)

/-- WRITE_SHADOW (R172). -/
def execWriteShadow (offset : Byte) (data : List Byte) (s : State) : Host.Outcome State Fault Refusal :=
  .next (takeRequest (.writeShadow offset data) s)

/-- WRITEBACK (R173). -/
def execWriteback (s : State) : Host.Outcome State Fault Refusal := .next (takeRequest .writeback s)

/-- RESTART (R176). -/
def execRestart (s : State) : Host.Outcome State Fault Refusal := .next (takeRequest .restart s)

/-- ATTN_READ (R182). -/
def execAttnRead (s : State) : Host.Outcome State Fault Refusal := .next (takeRequest .attnRead s)

/-- ATTN_REARM (R182). -/
def execAttnRearm (s : State) : Host.Outcome State Fault Refusal := .next (takeRequest .attnRearm s)

/-- The bytes a read transfer clocks out: the response frame, then values the manual does not state (assumption 5); FF
and then 00 when the buffer is empty (R178). -/
def clockedOut (draw clocked : Nat) (response : Option Response) : List Byte :=
  match response with
  | some r =>
    r.frame.take clocked ++ (List.range (clocked - r.frame.length)).map (Config.byteAfterFrame draw)
  | none => (0xFF :: List.replicate (clocked - 1) 0).take clocked

/-- A read transfer: the bytes clocked out, and the buffer emptied at the release of select (R178). -/
def readTransferred (clocked : Nat) (s : State) : State :=
  (s.setService
    { s.service with response := none, tx := clockedOut s.freeDraws clocked s.service.response }).drawn

/-- READ_TRANSFER (R178). -/
def execReadTransfer (clocked : Nat) (s : State) : Host.Outcome State Fault Refusal :=
  .next (readTransferred clocked s)

/-- A request transfer with these bytes: answered REFUSED with no effect when a check of R178 fails, and otherwise taken;
the part clocks out 00 hex for as many bytes as the transfer has (R178). -/
def requestTransferred (frame : List Byte) (s : State) : State :=
  (requestOf frame).elim (respond frame.length .refused [] s) fun r => clockZeros frame.length (takeRequest r s)

/-- SERVICE_REQUEST_INVALID (R178): the frame's bytes decide; a frame that passes every check is the request it spells. -/
def execServiceRequestInvalid (frame : List Byte) (s : State) : Host.Outcome State Fault Refusal :=
  .next (requestTransferred frame s)

end Sys2Proof.Machine
end

