-- ==== Sys2Proof/Machine/Dispatch.lean ====
section
/-! DEFINITION. exec: one arm for each command, each one direct call of the command's meaning. -/

namespace Sys2Proof.Machine

def exec (i : Instr) (s : State) : Host.Outcome State Fault Refusal :=
  match i with
  | .startReset => Sys2Proof.Machine.execStartReset s
  | .loadComplete => Sys2Proof.Machine.execLoadComplete s
  | .configMemoryTimeout answered => Sys2Proof.Machine.execConfigMemoryTimeout answered s
  | .connectorSample pilotMillivolts latchSensed earthSensed => Sys2Proof.Machine.execConnectorSample pilotMillivolts latchSensed earthSensed s
  | .helloReplyTimerExpiry => Sys2Proof.Machine.execHelloReplyTimerExpiry s
  | .forwardFrameSend => Sys2Proof.Machine.execForwardFrameSend s
  | .identReceived id card => Sys2Proof.Machine.execIdentReceived id card s
  | .statusReceived status => Sys2Proof.Machine.execStatusReceived status s
  | .cardReceived card => Sys2Proof.Machine.execCardReceived card s
  | .vehicleFrameDiscarded frame => Sys2Proof.Machine.execVehicleFrameDiscarded frame s
  | .vehicleWatchdogExpiry => Sys2Proof.Machine.execVehicleWatchdogExpiry s
  | .minuteTimerExpiry => Sys2Proof.Machine.execMinuteTimerExpiry s
  | .looptestStart => Sys2Proof.Machine.execLooptestStart s
  | .looptestStop => Sys2Proof.Machine.execLooptestStop s
  | .testFrameReturn frame => Sys2Proof.Machine.execTestFrameReturn frame s
  | .returnWindowExpiry => Sys2Proof.Machine.execReturnWindowExpiry s
  | .reportReceived report => Sys2Proof.Machine.execReportReceived report s
  | .stageFrameDiscarded frame => Sys2Proof.Machine.execStageFrameDiscarded frame s
  | .feederSample report => Sys2Proof.Machine.execFeederSample report s
  | .controlPeriod => Sys2Proof.Machine.execControlPeriod s
  | .stageSilent => Sys2Proof.Machine.execStageSilent s
  | .idleTimerExpiry => Sys2Proof.Machine.execIdleTimerExpiry s
  | .wakeTimerExpiry => Sys2Proof.Machine.execWakeTimerExpiry s
  | .lendableUpdate => Sys2Proof.Machine.execLendableUpdate s
  | .offerCompute => Sys2Proof.Machine.execOfferCompute s
  | .listenTimerExpiry => Sys2Proof.Machine.execListenTimerExpiry s
  | .announceTimerExpiry => Sys2Proof.Machine.execAnnounceTimerExpiry s
  | .transmissionStart idleMicros => Sys2Proof.Machine.execTransmissionStart idleMicros s
  | .collision => Sys2Proof.Machine.execCollision s
  | .transmissionComplete => Sys2Proof.Machine.execTransmissionComplete s
  | .receptionEnd characters => Sys2Proof.Machine.execReceptionEnd characters s
  | .announceReceived frame => Sys2Proof.Machine.execAnnounceReceived frame s
  | .shedReceived frame => Sys2Proof.Machine.execShedReceived frame s
  | .peerEntryExpiry station => Sys2Proof.Machine.execPeerEntryExpiry station s
  | .shedHoldExpiry => Sys2Proof.Machine.execShedHoldExpiry s
  | .mainsEdge timeMicros => Sys2Proof.Machine.execMainsEdge timeMicros s
  | .edgeTimeout => Sys2Proof.Machine.execEdgeTimeout s
  | .readItem item index => Sys2Proof.Machine.execReadItem item index s
  | .writeShadow offset data => Sys2Proof.Machine.execWriteShadow offset data s
  | .writeback => Sys2Proof.Machine.execWriteback s
  | .writebackPageDone readBack => Sys2Proof.Machine.execWritebackPageDone readBack s
  | .restart => Sys2Proof.Machine.execRestart s
  | .attnRead => Sys2Proof.Machine.execAttnRead s
  | .attnRearm => Sys2Proof.Machine.execAttnRearm s
  | .readTransfer clocked => Sys2Proof.Machine.execReadTransfer clocked s
  | .serviceRequestInvalid frame => Sys2Proof.Machine.execServiceRequestInvalid frame s

end Sys2Proof.Machine
end

