-- ==== Sys2Proof/Machine/Step.lean ====
section
/-! DEFINITION. One step: the command at the front of the queue, or one tick of the timebase when none waits. -/

namespace Sys2Proof.Machine

/-- One step of the part. It takes the command at the front of the queue and runs it on the state with the queue's
rest; with no command waiting 1 µs of the timebase passes (assumption 2). -/
def step (s : State) : Host.Outcome State Fault Refusal :=
  match s.pending with
  | c :: rest => exec c (s.setPending rest)
  | [] => .next s.tick

/-- The state with the command that a word spells by the opcode table put at the front of its queue; unchanged where the
word spells none. No row of the table gives bits, so no word spells a command (assumption 10). -/
def State.withFetchWord (s : State) (nbits w : Nat) : State :=
  match Sys2Proof.decodeTableWord nbits w with
  | some c => s.setPending (c :: s.pending)
  | none => s

end Sys2Proof.Machine
end

