-- ==== Sys2Proof/Safety.lean ====
section
/-! DEFINITION. The terms the statements use: the blocks of the state and what a command leaves unchanged, the ranges of
the working copy, and the invariants of each block. An invariant lists what the manual states of a block at every
moment; a state that no run reaches may break it. -/

namespace Sys2Proof.Machine

/-! ## Frames -/

/-- The parts of the state: the ten blocks of 2.1, the timebase, the count of free values and the queue. -/
inductive Block where
  | vehicle | tracker | account | link | peers | share | reserve | composer | store | service
  | clock | freeDraws | pending
  deriving DecidableEq, Repr

/-- A block is the same in two states. -/
def Block.same (b : Block) (s t : State) : Prop :=
  match b with
  | .vehicle => t.vehicle = s.vehicle
  | .tracker => t.tracker = s.tracker
  | .account => t.account = s.account
  | .link => t.link = s.link
  | .peers => t.peers = s.peers
  | .share => t.share = s.share
  | .reserve => t.reserve = s.reserve
  | .composer => t.composer = s.composer
  | .store => t.store = s.store
  | .service => t.service = s.service
  | .clock => t.clock = s.clock
  | .freeDraws => t.freeDraws = s.freeDraws
  | .pending => t.pending = s.pending

/-- Every block but those listed is the same in two states. -/
def unchangedExcept (changed : List Block) (s t : State) : Prop := ∀ b, b ∉ changed → b.same s t

/-! ## Configuration (R169, R171) -/

/-- Every value of a working copy lies in the range of R171. -/
structure WorkingCopy.InRange (w : WorkingCopy) : Prop where
  station : 1 ≤ w.station ∧ w.station ≤ 32
  protect : w.protect ≤ 16
  powers : w.fcap ≤ 65535 ∧ w.site ≤ 65535 ∧ w.upcommit ≤ 65535 ∧ w.dncommit ≤ 65535
  guard : w.guard ≤ 100
  isldiv : 1 ≤ w.isldiv ∧ w.isldiv ≤ 32
  nomf : w.nomf = 50 ∨ w.nomf = 60
  db : w.db ≤ 500
  full : w.db + 10 ≤ w.full ∧ w.full ≤ 1000
  tann : 10 ≤ w.tann ∧ w.tann ≤ 100
  ksil : 2 ≤ w.ksil ∧ w.ksil ≤ 8
  tenure : w.tenure ≤ 600
  shedhold : 1 ≤ w.shedhold ∧ w.shedhold ≤ 60
  trip : w.trip ≤ 200
  ntrip : 1 ≤ w.ntrip ∧ w.ntrip ≤ 20
  s2 : w.s2 ≤ 600
  s3 : w.s3 ≤ w.s2
  margin : w.margin ≤ 2000
  target : 50 ≤ w.target ∧ w.target ≤ 100
  lendguard : w.lendguard ≤ 2000
  protectWindow : w.protectWindow ≤ 240
  pdismax : w.pdismax ≤ 6000
  prated : w.prated ≤ 6000
  ramp : 1 ≤ w.ramp ∧ w.ramp ≤ 1000
  qstep : 1 ≤ w.qstep ∧ w.qstep ≤ 100
  idle : 10 ≤ w.idle ∧ w.idle ≤ 600
  derate : w.derate.length = 16 ∧ ∀ k ∈ w.derate, k ≤ 256
  vwd : 200 ≤ w.vwd ∧ w.vwd ≤ 2000

/-- A working copy exists exactly in LISTENING, RUNNING and CLASH, and its values are in range (R67, R169, R171). -/
structure State.Configured (s : State) : Prop where
  exists_ : s.store.working.isSome = s.link.station.active
  range : ∀ w ∈ s.store.working, w.InRange

/-- The external memory and the shadow keep the canonical form, and the shadow lists image bytes alone (Chapter 9). -/
structure State.MemoryCanonical (s : State) : Prop where
  memory : Mem.wf s.store.memory = true
  shadow : Mem.wf s.store.shadow = true
  image : ∀ c ∈ s.store.shadow, c.1 < 256

/-! ## Sessions (1.2, Chapter 2) -/

/-- What holds of sessions, readiness and the timers that belong to them (1.2, R5, R6, R11, R18, R29, R30, R36). -/
structure State.SessionSound (s : State) : Prop where
  vacant : s.vehicle.sessionOpen = true → s.tracker.readiness ≠ .vacant
  opened : s.tracker.readiness = .linking ∨ s.tracker.readiness.linked = true → s.vehicle.sessionOpen = true
  connected : s.tracker.readiness ≠ .vacant → s.vehicle.pilot ≠ .none
  post : s.tracker.readiness ≠ .vacant → s.isPost = true
  numbered : s.vehicle.sessionOpen = true → s.vehicle.session ≠ 0
  watchdog : s.vehicle.watchdog.isSome = s.tracker.readiness.linked
  helloTimer : s.vehicle.helloTimer.isSome = true → s.tracker.readiness = .linking
  card : s.tracker.readiness.linked = true → s.tracker.card.isSome = true
  countdown : s.tracker.readiness.linked = true → s.tracker.countdown.isSome = true
  minuteTimer : s.tracker.minuteTimer.isSome = true → s.tracker.readiness.linked = true
  derived : s.tracker.derived.isSome = s.tracker.readiness.linked
  asking : s.tracker.readiness.linked = false → s.tracker.claim = 0 ∧ s.tracker.urgency = 0
  urgency : s.tracker.urgency ≤ 3
  halted : s.tracker.readiness = .halted → s.tracker.haltReason.isSome = true
  permits : (s.vehicle.waiting.filter ForwardFrame.isPermit).length ≤ 1
  permitted : s.tracker.readiness.linked = false → s.vehicle.waiting.filter ForwardFrame.isPermit = []

/-! ## What an event of a session leaves (R6, R30 to R37, R42, R57, R60, R113, R114) -/

/-- The tracker holds what the tables of 2.2 to 2.4 give for a card, a countdown and an energy estimate, the vehicle's
limits, the derated rated power and the accepting condition being those of the state (R15, R31 to R37). -/
def State.TrackerFollows (t : State) (w : WorkingCopy) (c : RunCard) (n : Nat) (enow : Option Nat) : Prop :=
  ∃ (d : Derived) (accepting : Bool) (toward base : Nat),
    accepting = (t.vehicle.pilot == .energy
      && t.vehicle.lastStatus.any fun k => k.flags.getLsbD 0 && k.flags.getLsbD 1)
    ∧ toward = (if enow.any (· < d.etarget) then d.pmax else 0)
    ∧ base = (if d.egap.any (0 < ·) ∨ enow.any (· < d.etarget) then d.pmax else 0)
    ∧ t.tracker.derived = some d
    ∧ d.efloor = c.eroute + w.margin ∧ d.egap = enow.map (c.eroute + w.margin - ·)
    ∧ d.pmax = min (t.vehicle.lastStatus.elim 0 fun k => k.pvmax.toNat) t.composer.pderated
    ∧ d.tmin = d.egap.map (fun gap =>
        if gap = 0 then 0 else if d.pmax = 0 then 65535 else min 65535 ((gap * 60 + d.pmax - 1) / d.pmax))
    ∧ d.slack = (if n = 65535 then none else d.tmin.map fun tmin => (n : Int) - tmin)
    ∧ d.windowOpen = c.conditioning.any (fun k => decide (0 < n ∧ n ≤ k.tcond))
    ∧ d.etarget = (t.vehicle.lastStatus.elim 0 fun k => k.ecap.toNat) * w.target / 100
    ∧ t.tracker.readiness =
        (if c.departure = 65535 then .unplanned else if n = 0 then .due
        else if d.windowOpen then .conditioning else if d.egap = none then .charging
        else if d.egap = some 0 then .topped else if d.slack.any (· < 0) then .atRisk else .charging)
    ∧ t.tracker.urgency =
        (if t.tracker.readiness = .unplanned ∨ t.tracker.readiness = .due then 0 else if d.windowOpen then 3
        else if d.egap = some 0 then 0 else if d.egap = none then 1
        else if d.slack.any (· < (w.s3 : Int)) then 3 else if d.slack.any (· < (w.s2 : Int)) then 2 else 1)
    ∧ ((t.tracker.readiness = .unplanned ∨ t.tracker.readiness = .due ∨ t.tracker.readiness = .topped) →
        t.tracker.claim = if accepting then toward else 0)
    ∧ ((t.tracker.readiness = .charging ∨ t.tracker.readiness = .atRisk) →
        t.tracker.claim = if accepting then d.pmax else 0)
    ∧ (t.tracker.readiness = .conditioning →
        t.tracker.claim =
          min ((if accepting then base else 0) + c.conditioning.elim 0 Conditioning.pcond) t.composer.pderated)

/-- A share engine handed a claim: a lower claim lowers the allowance to it, and the held amount and tenure with it;
any other changes nothing (R113, R114). -/
structure Share.LoweredTo (claim : Nat) (before after : Share) : Prop where
  kept : before.allowance ≤ claim → after = before
  holding : claim < before.allowance → 0 < min before.held claim →
    after = { before with allowance := claim, held := min before.held claim }
  released : claim < before.allowance → min before.held claim = 0 →
    after = { before with allowance := claim, held := 0, tenure := false, tenureLeft := 0 }

/-- What a halt does to the vehicle line, the tracker and the share engine: both timers stopped, a waiting PERMIT
discarded, one STOP with the reason sent to a session, HALTED entered with the reason, and the claim of 0 handed on (R6,
R42, R114). -/
structure State.HaltedBy (r : HaltReason) (s t : State) : Prop where
  vehicle : t.vehicle = { s.vehicle with
    helloTimer := none, watchdog := none
    waiting := s.vehicle.waiting.filter (fun f => !f.isPermit)
      ++ (if s.vehicle.sessionOpen then [.stop s.vehicle.session (.halt r)] else []) }
  tracker : t.tracker = { s.tracker with
    readiness := .halted, haltReason := some r, outcome := some .halted, minuteTimer := none, derived := none
    urgency := 0, claim := 0 }
  share : s.share.LoweredTo 0 t.share

/-- A halt and nothing else before it: L, the offer and the gate follow, and HALTED is raised (R6, R42, R59). -/
structure State.Halts (r : HaltReason) (s t : State) : Prop where
  halted : s.HaltedBy r t
  account : t.account = { s.account with gate := .notTopped, lendable := 0, offer := 0 }
  service : t.service = { s.service with pendingCauses := s.service.pendingCauses ||| 2#12 }

/-- The lending gate, L and the discharge offer are those that the table of 3.4 and the rule of 3.5 give for the
readiness, the countdown, Efloor, Enow and the vehicle's limits as they stand (R57, R59, R60). -/
structure State.LendsByTable (s : State) : Prop where
  notTopped : s.tracker.readiness ≠ .topped →
    s.account.gate = .notTopped ∧ s.account.lendable = 0 ∧ s.account.offer = 0
  inWindow : ∀ w ∈ s.store.working, ∀ d ∈ s.tracker.derived, ∀ n ∈ s.tracker.countdown, ∀ e ∈ s.account.enow,
    s.tracker.readiness = .topped → n ≤ w.protectWindow →
    s.account.gate = .inWindow ∧ s.account.lendable = 0 ∧ s.account.offer = 0
  belowGuard : ∀ w ∈ s.store.working, ∀ d ∈ s.tracker.derived, ∀ n ∈ s.tracker.countdown, ∀ e ∈ s.account.enow,
    s.tracker.readiness = .topped → w.protectWindow < n → (e : Int) - d.efloor - w.lendguard ≤ 0 →
    s.account.gate = .belowGuard ∧ s.account.lendable = 0 ∧ s.account.offer = 0
  isOpen : ∀ w ∈ s.store.working, ∀ d ∈ s.tracker.derived, ∀ n ∈ s.tracker.countdown, ∀ e ∈ s.account.enow,
    s.tracker.readiness = .topped → w.protectWindow < n → 0 < (e : Int) - d.efloor - w.lendguard →
    s.account.gate = .isOpen ∧ (s.account.lendable : Int) = e - d.efloor - w.lendguard
      ∧ s.account.offer = min (s.vehicle.lastStatus.elim 0 fun k => k.pvdis.toNat) w.pdismax

/-! ## Energy account (R50, R52, R53, R57, R60) -/

/-- The ranges of the account's state, the law that L and the offer are 0 outside TOPPED, and that gate, L and offer are
at every moment those their inputs give (R58). -/
structure State.AccountSound (s : State) : Prop where
  deltaResidue : -36000 < s.account.deltaResidue ∧ s.account.deltaResidue < 36000
  delta : -32767 ≤ s.account.delta ∧ s.account.delta ≤ 32767
  inResidue : s.account.inResidue < 36000
  energyIn : s.account.energyIn ≤ 65535
  outResidue : s.account.outResidue < 36000
  energyOut : s.account.energyOut ≤ 65535
  enow : ∀ e ∈ s.account.enow, e ≤ s.ecap
  lending : s.tracker.readiness ≠ .topped → s.account.lendable = 0 ∧ s.account.offer = 0
  offer : s.account.lendable = 0 → s.account.offer = 0
  gate : s.account.gate = .isOpen ↔ 0 < s.account.lendable
  limit : s.account.offer ≤ s.store.working.elim 0 WorkingCopy.pdismax
  current : s.LendsByTable

/-! ## Depot link (R67 to R76) -/

/-- What holds of the link controller's timers, its frames in hand and its receiver. The idle time of the line and the
receiver during an own transmission are the model's own (assumptions 26 and 27). -/
structure State.LinkSound (s : State) : Prop where
  listenTimer : s.link.listenTimer.isSome = (s.link.station == .listening)
  quiet : s.link.station ≠ .running →
    s.link.announceTimer = none ∧ s.link.announceHand = none ∧ s.link.shedHand = none
      ∧ s.link.shedBehind = none ∧ s.link.transmitting = none
  announcing : s.link.station = .running →
    s.link.sequence.isSome = true ∧ s.link.announceTimer.isSome = s.link.announceHand.isNone
  sendingAnnounce : s.link.transmitting = some .announce → s.link.announceHand.isSome = true
  sendingShed : s.link.transmitting = some .shed → s.link.shedHand.isSome = true
  announceAttempts : ∀ h ∈ s.link.announceHand,
    h.attempts ≤ 4 ∧ (s.link.transmitting ≠ some .announce → h.attempts ≤ 3)
  shedAttempts : ∀ h ∈ s.link.shedHand,
    h.attempts ≤ 4 ∧ (s.link.transmitting ≠ some .shed → h.attempts ≤ 3)
  shedBehind : s.link.shedBehind.isSome = true → s.link.transmitting = some .shed
  meter : s.link.shedHand.isSome = true → s.isMeter = true
  driving : s.link.transmitting.isSome = true → s.link.idleTime = 0 ∧ s.link.receiver ≠ .hearing
  ending : s.link.receiver = .ending → s.link.transmitting.isSome = true

/-! ## Peer table (R85, R87, R92) -/

/-- What R85 and R92 state of the table. An age stands at T_sil until the removal is taken (assumption 3). -/
structure State.TableSound (s : State) : Prop where
  rising : s.peers.entries.Pairwise fun p q => p.station < q.station
  range : ∀ p ∈ s.peers.entries, 1 ≤ p.station ∧ p.station ≤ 32
  foreign : ∀ p ∈ s.peers.entries, p.station ≠ s.stationNumber
  sanitised : ∀ p ∈ s.peers.entries, p.held ≤ p.claim
  age : ∀ p ∈ s.peers.entries, p.age ≤ s.silentTime
  idle : s.link.station.active = false → s.peers.entries = []
  alone : s.peers.alone = true ↔ s.link.station = .running ∧ s.peers.entries = []

/-! ## Share engine (R101, R109, R113, R122, R123) -/

/-- The bounds of R109 on the allowance, of R113 on the held amount, of R123 while shed-hold runs, and R101's items of
each role. -/
structure State.ShareSound (s : State) : Prop where
  withinClaim : s.share.allowance ≤ s.tracker.claim
  withinBudget : s.share.allowance ≤ s.share.budget.elim 0 Budget.budget
  withinIsland : s.peers.alone = true → ∀ w ∈ s.store.working, s.share.allowance ≤ islandAllowance w s.tracker.claim
  held : s.share.held ≤ s.share.allowance
  tenureOff : s.share.tenure = false → s.share.held = 0
  tenureOn : s.share.tenure = true → 1 ≤ s.share.held
  grounded : s.responds = false →
    s.share.allowance = 0 ∧ s.share.held = 0 ∧ s.share.discharge = 0 ∧ s.share.tenure = false
  capped : s.share.shedHold = true → s.share.allowance ≤ s.share.shedCap
  shedTimer : s.share.shedTimer.isSome = s.share.shedHold
  meter : s.isMeter = false → s.share.overloadCount = 0 ∧ s.share.shedding = false
  overload : ∀ w ∈ s.store.working, s.share.overloadCount ≤ w.ntrip
  post : s.isPost = false → s.share.lastAllocation = none

/-! ## Reserve unit (R131, R137 to R147) -/

/-- The bounds of R145 on shares and response, and the tables of 7.3 and R147. -/
structure State.ReserveSound (s : State) : Prop where
  up : s.reserve.upShare ≤ s.reserve.offerUp
  down : s.reserve.downShare ≤ s.reserve.offerDown
  response : -(s.reserve.downShare : Int) ≤ s.reserve.response ∧ s.reserve.response ≤ s.reserve.upShare
  grounded : s.responds = false →
    s.reserve.offerUp = 0 ∧ s.reserve.offerDown = 0 ∧ s.reserve.shortUp = false ∧ s.reserve.shortDown = false
  dead : s.reserve.state = .disabled ∨ s.reserve.state = .mainsLost →
    s.reserve.offerUp = 0 ∧ s.reserve.offerDown = 0 ∧ s.reserve.active = 0 ∧ s.reserve.droop = 0
  starting : s.reserve.state = .starting →
    s.reserve.history.length ≤ 2 ∧ s.reserve.active = 0 ∧ s.reserve.droop = 0 ∧ s.reserve.response = 0
  measuring : s.reserve.state = .measuring → s.reserve.history.length = 3
  disabled : s.reserve.state = .disabled → s.reserve.history = []
  lost : s.reserve.state = .mainsLost →
    s.reserve.history.length = s.reserve.recoveryCount ∧ s.reserve.recoveryCount ≤ 2
  droop : s.reserve.droop ≤ 1024
  shed : s.share.shedHold = true → s.reserve.upShare = 0
  idle : s.link.station.active = false → s.reserve.state = .starting

/-! ## Setpoint composer (R152, R157 to R162) -/

/-- The bounds of 8.4 on the latest period's values, what 8.6 states of the stage mode, and that a post holds no feeder
sample (R152). -/
structure State.ComposerSound (s : State) : Prop where
  clamps : s.composer.lowerClamp ≤ 0 ∧ 0 ≤ s.composer.upperClamp
  target : s.composer.lowerClamp ≤ s.composer.target ∧ s.composer.target ≤ s.composer.upperClamp
  demand : s.composer.lowerClamp ≤ s.composer.demand ∧ s.composer.demand ≤ s.composer.upperClamp
  residue : ∀ w ∈ s.store.working, 0 ≤ s.composer.residue ∧ s.composer.residue < w.qstep
  quantum : ∀ w ∈ s.store.working, (w.qstep : Int) ∣ s.composer.demand ∧ (w.qstep : Int) ∣ s.composer.output
  settle : s.composer.settle ≤ 2
  run : s.composer.mode ≠ .run → s.composer.settle = 0 ∧ s.composer.idleTimer = 0
  wake : s.composer.wakeTimer.isSome = (s.composer.mode == .wake)
  wakeTime : ∀ e ∈ s.composer.wakeTimer, e ≤ wakeLimit
  timedOut : s.composer.timedOut = true → s.composer.mode = .standby
  silent : s.composer.silentCount ≤ 255
  idle : s.composes = false → s.composer.mode = .standby ∧ s.composer.demand = 0 ∧ s.composer.output = 0
    ∧ s.composer.residue = 0 ∧ s.composer.ramped = 0
  sample : s.isPost = true → s.composer.feederSample = none

/-! ## All of them -/

/-- Every invariant above holds. -/
structure State.Sound (s : State) : Prop where
  configured : s.Configured
  memory : s.MemoryCanonical
  session : s.SessionSound
  account : s.AccountSound
  link : s.LinkSound
  table : s.TableSound
  share : s.ShareSound
  reserve : s.ReserveSound
  composer : s.ComposerSound

end Sys2Proof.Machine
end

