-- ==== Sys2Proof/Certificates/Slice0/Obligations.lean ====
section
/-! DEFINITION. The statements for the provers, each about one rule or one family of commands of the manual.
`unchangedExcept l s t` says that the blocks of `l` are the only ones that differ between `s` and `t`. -/

open Sys2Proof Sys2Proof.Machine

/-! ## The step -/

/-- A step takes the command at the front of the queue and runs it on the state with the queue's rest. -/
def Obligations.StepRunsTheFrontCommand : Prop :=
  ∀ (c : Instr) (rest : List Instr) (s : State), s.pending = c :: rest → step s = exec c (s.setPending rest)

/-- With an empty queue 1 µs passes. While `n` µs pass, the clock and the idle time of a line that the station does not
drive rise by `n`, running timers run down by `n` to 0, ages rise by `n` to T_sil and the wake timer to 10 s, each in µs
from its own start; nothing else happens, the table keeps its entries, and times add up (that a step on an empty queue
is a tick is the model's choice, assumption 2; that expiries wait to be taken assumption 3, the idle time and the
receiver of the line assumptions 26 and 27). -/
def Obligations.IdleStepIsOneMicrosecond : Prop :=
  ∀ (s : State) (n : Nat),
    (s.pending = [] → step s = .next (s.elapse 1))
    ∧ (∀ k, (s.elapse n).elapse k = s.elapse (n + k))
    ∧ s.advance n = s.elapse (1000 * n)
    ∧ (∀ w ∈ s.store.working, s.silentTime = w.ksil * (w.tann * 10) * 1000)
    ∧ ∃ t, s.elapse n = t
      ∧ t.clock = s.clock + n
      ∧ t.vehicle = { s.vehicle with
          helloTimer := s.vehicle.helloTimer.map (· - n), watchdog := s.vehicle.watchdog.map (· - n),
          loopWindow := s.vehicle.loopWindow.map (· - n) }
      ∧ t.tracker = { s.tracker with minuteTimer := s.tracker.minuteTimer.map (· - n) }
      ∧ t.link = { s.link with
          listenTimer := s.link.listenTimer.map (· - n), announceTimer := s.link.announceTimer.map (· - n)
          idleTime := if s.link.transmitting = none then s.link.idleTime + n else s.link.idleTime
          receiver := (match s.link.receiver with
            | .hearing => .hearing
            | .ending => if s.link.transmitting ≠ none ∧ 0 < n then .deaf 0 else .ending
            | .deaf quiet => if s.link.transmitting = none then .deaf (quiet + n) else .deaf quiet) }
      ∧ t.peers.alone = s.peers.alone ∧ t.peers.entries.length = s.peers.entries.length
      ∧ (∀ i : Nat, ∀ p ∈ s.peers.entries[i]?,
          (p.age + n ≤ s.silentTime → t.peers.entries[i]? = some { p with age := p.age + n })
          ∧ (p.age ≤ s.silentTime → s.silentTime < p.age + n →
              t.peers.entries[i]? = some { p with age := s.silentTime })
          ∧ (s.silentTime < p.age → t.peers.entries[i]? = some p))
      ∧ t.share = { s.share with shedTimer := s.share.shedTimer.map (· - n) }
      ∧ t.reserve = { s.reserve with edgeTimeout := s.reserve.edgeTimeout.map (· - n) }
      ∧ (∀ e ∈ s.composer.wakeTimer,
          (e + n ≤ 10000000 → t.composer = { s.composer with wakeTimer := some (e + n) })
          ∧ (e ≤ 10000000 → 10000000 < e + n → t.composer = { s.composer with wakeTimer := some 10000000 })
          ∧ (10000000 < e → t.composer = s.composer))
      ∧ (s.composer.wakeTimer = none → t.composer = s.composer)
      ∧ unchangedExcept [.vehicle, .tracker, .link, .peers, .share, .reserve, .composer, .clock] s t

/-- No command stops the part, and none touches the queue of waiting commands (the queue is the model's own, assumption
33; that a start reset keeps it is assumption 20). -/
def Obligations.EveryCommandCompletes : Prop :=
  ∀ (c : Instr) (s : State), ∃ t, exec c s = .next t ∧ t.pending = s.pending

/-! ## Resets and the configuration memory -/

/-- A start reset puts every block in the state its chapter gives it and keeps the external memory, but for the page a
write-back was writing, where each byte is the old one or the shadow's (1.9, 2.8, 3.6, 4.8, 5.6, 6.14, 7.9, 8.10, 9.5,
9.7, 10.2; that the queue and the count of free values stay is the model's choice, assumptions 20 and 33, which bytes of
the page are new assumption 4, that no STAGE_TIMEOUT stands and the idle time of the line is 0 assumptions 24 and 38,
and how soon the receiver can deliver what begins after the reset assumption 27). -/
def Obligations.StartResetClearsEveryBlock : Prop :=
  ∀ s : State, ∃ t, exec .startReset s = .next t
    ∧ (t.vehicle.pilotHistory = [] ∧ t.vehicle.proximityHistory = [] ∧ t.vehicle.earthHistory = []
      ∧ t.vehicle.pilot = .none ∧ t.vehicle.proximity = .opened ∧ t.vehicle.earth = .ok
      ∧ t.vehicle.session = 0 ∧ t.vehicle.sessionOpen = false ∧ t.vehicle.helloTimer = none
      ∧ t.vehicle.helloCount = 0 ∧ t.vehicle.vehicleId = none ∧ t.vehicle.lastStatus = none
      ∧ t.vehicle.watchdog = none ∧ t.vehicle.crcErrors = 0 ∧ t.vehicle.loopResult = .none
      ∧ t.vehicle.loopErrors = 0 ∧ t.vehicle.waiting = [])
    ∧ (t.tracker.readiness = .vacant ∧ t.tracker.card = none ∧ t.tracker.countdown = none
      ∧ t.tracker.minuteTimer = none ∧ t.tracker.derived = none ∧ t.tracker.urgency = 0 ∧ t.tracker.claim = 0
      ∧ t.tracker.outcome = none ∧ t.tracker.haltReason = none ∧ t.tracker.planMark = false
      ∧ t.tracker.atRiskMinutes = 0 ∧ t.tracker.record = none)
    ∧ t.account = { deltaResidue := 0, delta := 0, inResidue := 0, energyIn := 0, outResidue := 0, energyOut := 0,
                    enow := none, lendable := 0, gate := .notTopped, offer := 0 }
    ∧ (t.link.station = .loading ∧ t.link.listenTimer = none ∧ t.link.announceTimer = none
      ∧ t.link.sequence = none ∧ t.link.announceHand = none ∧ t.link.shedHand = none ∧ t.link.shedBehind = none
      ∧ t.link.transmitting = none ∧ t.link.receiveBuffer = [] ∧ t.link.goodFrames = 0 ∧ t.link.crcErrors = 0
      ∧ t.link.malformed = 0 ∧ t.link.collisions = 0 ∧ t.link.dropped = 0 ∧ t.link.idleTime = 0
      ∧ t.link.receiver = .deaf 40)
    ∧ t.peers = { entries := [], alone := false }
    ∧ (t.share.allowance = 0 ∧ t.share.held = 0 ∧ t.share.discharge = 0 ∧ t.share.tenure = false
      ∧ t.share.shedHold = false ∧ t.share.shedTimer = none ∧ t.share.shedCap = 0 ∧ t.share.lastAllocation = none
      ∧ t.share.budget = none ∧ t.share.contested = false ∧ t.share.overloadCount = 0 ∧ t.share.shedding = false
      ∧ t.share.lastFraction = none)
    ∧ (t.reserve.measurement = none ∧ t.reserve.edgeTimeout = none ∧ t.reserve.lastFrequency = none
      ∧ t.reserve.history = [] ∧ t.reserve.active = 0 ∧ t.reserve.droop = 0 ∧ t.reserve.implausibleCount = 0
      ∧ t.reserve.recoveryCount = 0 ∧ t.reserve.state = .starting ∧ t.reserve.offerUp = 0
      ∧ t.reserve.offerDown = 0 ∧ t.reserve.upShare = 0 ∧ t.reserve.downShare = 0 ∧ t.reserve.shortUp = false
      ∧ t.reserve.shortDown = false ∧ t.reserve.response = 0)
    ∧ (t.composer.ramped = 0 ∧ t.composer.residue = 0 ∧ t.composer.demand = 0 ∧ t.composer.target = 0
      ∧ t.composer.upperClamp = 0 ∧ t.composer.lowerClamp = 0 ∧ t.composer.output = 0 ∧ t.composer.mode = .standby
      ∧ t.composer.converter = none ∧ t.composer.temperature = none ∧ t.composer.draw = 0
      ∧ t.composer.derateIndex = 0 ∧ t.composer.derateFactor = 0 ∧ t.composer.pderated = 0
      ∧ t.composer.settle = 0 ∧ t.composer.idleTimer = 0 ∧ t.composer.wakeTimer = none
      ∧ t.composer.timedOut = false ∧ t.composer.silentCount = 0 ∧ t.composer.feederSample = none)
    ∧ (t.store.working = none ∧ t.store.loadResult = .loading ∧ t.store.clamped = false
      ∧ t.store.writebackRunning = false ∧ t.store.writebackPage = 0 ∧ t.store.writebackResult = .none
      ∧ t.store.failingPage = 0)
    ∧ (t.service.pendingCauses = 0 ∧ t.service.armed = true ∧ t.service.response = none)
    ∧ (s.store.writebackRunning = false → t.store.memory = s.store.memory ∧ t.freeDraws = s.freeDraws)
    ∧ (s.store.writebackRunning = true → Mem.wf s.store.memory = true →
        ∀ a, (a < 16 * s.store.writebackPage ∨ 16 * s.store.writebackPage + 16 ≤ a →
            readByte t.store.memory a = readByte s.store.memory a)
          ∧ (readByte t.store.memory a = readByte s.store.memory a
            ∨ readByte t.store.memory a = readByte s.store.shadow a))
    ∧ Tracker.reset = t.tracker ∧ Account.reset = t.account ∧ PeerTable.reset = t.peers
    ∧ t.pending = s.pending

/-- A load whose image passes the five checks forms the working copy and enters LISTENING: the listen timer at T_sil,
the edge timeout at 50 ms, the derating computed, the reserve state set; a post with a vehicle connected starts a
link-up at that entry, with the next session number and the first HELLO, and otherwise nothing else happens (9.2, 9.3,
4.2, 7.2, 7.3, 8.3, 1.2). A feeder sample that reached the feed before stays in the METER role, and a post holds none
(6.10, 8.1; assumption 40). -/
def Obligations.SoundImageEndsTheLoadInListening : Prop :=
  ∀ (s : State) (image : Mem) (w : WorkingCopy) (links : Bool) (session : Byte) (index : Nat),
    (∀ k, s.composer.temperature = some k → (index : Int) = max 0 (min 15 ((k - 40) / 5))) →
    (s.composer.temperature = none → index = 0) →
    s.link.station = .loading → s.tracker.readiness = .vacant →
    links = (decide (w.role = .post) && (decide (s.vehicle.pilot = .present) || decide (s.vehicle.pilot = .energy))) →
    session = (if s.vehicle.session = 255 then 1 else s.vehicle.session + 1) →
    image = below 256 s.store.memory → w = formCopy image →
    readByte image 0 = 0xD3 → readByte image 1 = 0x5A → readByte image 2 = 1 →
    crc16 (readBytes image 0 254) = readWord image 254 →
    1 ≤ (readByte image 3).toNat → (readByte image 3).toNat ≤ 32 →
    (readByte image 4 = 1 ∨ readByte image 4 = 2) →
    ∃ t, exec .loadComplete s = .next t
      ∧ t.store = { s.store with
          shadow := image, working := some w, clamped := decide (w ≠ storedCopy image),
          loadResult := if w ≠ storedCopy image then .loadedClamped else .loaded }
      ∧ t.link = { s.link with
          station := .listening, listenTimer := some (w.ksil * (w.tann * 10) * 1000), announceTimer := none }
      ∧ t.peers = { s.peers with alone := false }
      ∧ t.share = { s.share with
          allowance := 0, held := 0, tenure := false, tenureLeft := 0, discharge := 0, budget := none,
          contested := false, overloadCount := 0, shedding := false }
      ∧ t.reserve = { s.reserve with
          state := if w.role = .meter ∨ (w.upcommit = 0 ∧ w.dncommit = 0) then .disabled else .starting
          history := [], implausibleCount := 0, recoveryCount := 0, edgeTimeout := some 50000
          response := 0, upShare := 0, downShare := 0, shortUp := false, shortDown := false, offerUp := 0,
          offerDown := 0 }
      ∧ t.composer =
          (if w.role = .post then
            { s.composer with
              derateIndex := index, derateFactor := w.derate.getD index 0
              pderated := w.prated * w.derate.getD index 0 / 256, feederSample := none }
          else s.composer)
      ∧ t.service = { s.service with
          pendingCauses :=
            if w ≠ storedCopy image then s.service.pendingCauses ||| 16#12 else s.service.pendingCauses }
      ∧ (links = true →
          t.vehicle = { s.vehicle with
            session := session, sessionOpen := true, helloCount := 1
            waiting := s.vehicle.waiting ++ [.hello session w.station w.prated] }
          ∧ t.tracker = { Tracker.reset with readiness := .linking, record := s.tracker.record }
          ∧ t.account = { deltaResidue := 0, delta := 0, inResidue := 0, energyIn := 0, outResidue := 0,
                          energyOut := 0, enow := none, lendable := 0, gate := .notTopped, offer := 0 }
          ∧ unchangedExcept
              [.vehicle, .tracker, .account, .store, .link, .peers, .share, .reserve, .composer, .service] s t)
      ∧ (links = false → unchangedExcept [.store, .link, .peers, .share, .reserve, .composer, .service] s t)

/-- The checks of 9.2 on an image, in their order: the signature D3 5A and the version 1, else SIGNATURE; the CRC-16
over bytes 0 to 253 in bytes 254 and 255, low byte first, else CRC; a station number from 1 to 32, else STATION; a role
of 1 or 2, else ROLE. A load that fails one, or a read that goes unanswered, leaves no working copy, records the check,
raises UNCONFIGURED and enters UNCONFIGURED; the bytes not yet read are 0 in the shadow (9.2, 10.8). -/
def Obligations.FailedLoadEndsInUnconfigured : Prop :=
  (∀ image : Mem, structuralError image =
    (if readByte image 0 ≠ 0xD3 ∨ readByte image 1 ≠ 0x5A ∨ readByte image 2 ≠ 1 then some .signature
    else if bytesOfWord (crc16 ((List.range 254).map (readByte image))) ≠ [readByte image 254, readByte image 255] then
      some .crc
    else if readByte image 3 = 0 ∨ 32 < (readByte image 3).toNat then some .station
    else if readByte image 4 ≠ 1 ∧ readByte image 4 ≠ 2 then some .role
    else none))
  ∧ ∀ s : State, s.link.station = .loading →
    (∀ e, structuralError (below 256 s.store.memory) = some e →
      ∃ t, exec .loadComplete s = .next t
        ∧ t.store = { s.store with
            shadow := below 256 s.store.memory, working := none, clamped := false, loadResult := e }
        ∧ t.link = { s.link with station := .unconfigured, listenTimer := none, announceTimer := none }
        ∧ t.service = { s.service with pendingCauses := s.service.pendingCauses ||| 8#12 }
        ∧ t.peers = { s.peers with alone := false }
        ∧ t.share = { s.share with
            allowance := 0, held := 0, tenure := false, tenureLeft := 0, discharge := 0, budget := none
            contested := false, overloadCount := 0, shedding := false }
        ∧ t.reserve = { s.reserve with
            response := 0, upShare := 0, downShare := 0, shortUp := false, shortDown := false, offerUp := 0
            offerDown := 0 }
        ∧ unchangedExcept [.store, .link, .service, .peers, .share, .reserve] s t)
    ∧ (∀ n, n < 256 →
      ∃ t, exec (.configMemoryTimeout n) s = .next t
        ∧ t.store = { s.store with
            shadow := below n s.store.memory, working := none, clamped := false, loadResult := .noAnswer }
        ∧ (Mem.wf s.store.memory = true →
            ∀ a, readByte t.store.shadow a = if a < n then readByte s.store.memory a else 0)
        ∧ t.link = { s.link with station := .unconfigured, listenTimer := none, announceTimer := none }
        ∧ t.service = { s.service with pendingCauses := s.service.pendingCauses ||| 8#12 }
        ∧ t.peers = { s.peers with alone := false }
        ∧ t.share = { s.share with
            allowance := 0, held := 0, tenure := false, tenureLeft := 0, discharge := 0, budget := none
            contested := false, overloadCount := 0, shedding := false }
        ∧ t.reserve = { s.reserve with
            response := 0, upShare := 0, downShare := 0, shortUp := false, shortDown := false, offerUp := 0
            offerDown := 0 }
        ∧ unchangedExcept [.store, .link, .service, .peers, .share, .reserve] s t)

/-- The stored values stand at the offsets of 10.8, those of two bytes low byte first. The working copy formed from an
image that passes the checks has every value in its range, field by field: a stored value in its range is kept whatever
the other fields hold, and one outside it becomes the nearer bound, S3 and FULL by the ranges that the clamped S2 and DB
give; a stored NOMF of 55 or below becomes 50 and one above becomes 60 (9.3, 10.8). -/
def Obligations.FormedCopyLiesInRange : Prop :=
  ∀ (m : Mem) (byte word : Nat → Nat) (stored formed : WorkingCopy),
    (∀ a, byte a = (readByte m a).toNat) → (∀ a, word a = byte a + 256 * byte (a + 1)) →
    structuralError m = none → stored = storedCopy m → formed = formCopy m →
    stored = { station := byte 3, role := if byte 4 = 1 then .post else .meter, protect := byte 5
               fcap := word 16, site := word 18, guard := byte 20, isldiv := byte 21
               upcommit := word 22, dncommit := word 24, nomf := byte 26, db := word 27, full := word 29
               tann := byte 32, ksil := byte 33, tenure := word 34, shedhold := byte 36, trip := byte 37
               ntrip := byte 38, s2 := word 48, s3 := word 50, margin := word 52, target := byte 54
               lendguard := word 55, protectWindow := byte 57, pdismax := word 58
               prated := word 64, ramp := word 66, qstep := byte 68, idle := word 69, vwd := word 71
               mask := BitVec.ofNat 16 (word 73), derate := (List.range 16).map fun i => word (96 + 2 * i) }
    ∧ formed.InRange
    ∧ (∀ range ∈
        [(0, 16, stored.protect, formed.protect), (0, 100, stored.guard, formed.guard),
         (1, 32, stored.isldiv, formed.isldiv), (0, 500, stored.db, formed.db),
         (formed.db + 10, 1000, stored.full, formed.full), (10, 100, stored.tann, formed.tann),
         (2, 8, stored.ksil, formed.ksil), (0, 600, stored.tenure, formed.tenure),
         (1, 60, stored.shedhold, formed.shedhold), (0, 200, stored.trip, formed.trip),
         (1, 20, stored.ntrip, formed.ntrip), (0, 600, stored.s2, formed.s2), (0, formed.s2, stored.s3, formed.s3),
         (0, 2000, stored.margin, formed.margin), (50, 100, stored.target, formed.target),
         (0, 2000, stored.lendguard, formed.lendguard), (0, 240, stored.protectWindow, formed.protectWindow),
         (0, 6000, stored.pdismax, formed.pdismax), (0, 6000, stored.prated, formed.prated),
         (1, 1000, stored.ramp, formed.ramp), (1, 100, stored.qstep, formed.qstep), (10, 600, stored.idle, formed.idle),
         (200, 2000, stored.vwd, formed.vwd)],
        (range.1 ≤ range.2.2.1 → range.2.2.1 ≤ range.2.1 → range.2.2.2 = range.2.2.1)
        ∧ (range.2.2.1 < range.1 → range.2.2.2 = range.1)
        ∧ (range.2.1 < range.2.2.1 → range.2.2.2 = range.2.1))
    ∧ (∀ i, i < 16 → formed.derate.getD i 0 = min 256 (stored.derate.getD i 0))
    ∧ (stored.nomf ≤ 55 → formed.nomf = 50) ∧ (55 < stored.nomf → formed.nomf = 60)
    ∧ formed.station = stored.station ∧ formed.role = stored.role ∧ formed.fcap = stored.fcap
    ∧ formed.site = stored.site ∧ formed.upcommit = stored.upcommit ∧ formed.dncommit = stored.dncommit
    ∧ formed.mask = stored.mask

/-- A page of a write-back that reads back as the shadow's advances it, page 15 completes it, and a page that differs
or is not answered fails it; the memory outside the page keeps its bytes, and after an unanswered write each byte of the
page is the old one or the shadow's (9.5; what the page holds afterwards is the model's choice, assumptions 4 and 8, and
so are the failing page after a completion and the page kept at the end, assumption 25). -/
def Obligations.WritebackAdvancesCompletesOrFails : Prop :=
  ∀ (s : State) (n : Nat), s.link.station ≠ .loading → s.store.writebackRunning = true →
    s.store.writebackPage = n → Mem.wf s.store.memory = true →
    (∀ answered, ∃ t, exec (.configMemoryTimeout answered) s = .next t
      ∧ t.store = { s.store with
          memory := t.store.memory, writebackRunning := false, writebackResult := .failed, failingPage := n }
      ∧ (∀ a, a < 16 * n ∨ 16 * n + 16 ≤ a → readByte t.store.memory a = readByte s.store.memory a)
      ∧ (∀ a, readByte t.store.memory a = readByte s.store.memory a
          ∨ readByte t.store.memory a = readByte s.store.shadow a)
      ∧ t.service = { s.service with pendingCauses := s.service.pendingCauses ||| 1024#12 }
      ∧ unchangedExcept [.store, .service, .freeDraws] s t)
    ∧ (∀ page : Page, ∃ t, exec (.writebackPageDone page) s = .next t
      ∧ (∀ a, readByte t.store.memory a =
          if 16 * n ≤ a ∧ a < 16 * n + 16 then page.toList.getD (a - 16 * n) 0 else readByte s.store.memory a)
      ∧ (page.toList = readBytes s.store.shadow (16 * n) 16 → n < 15 →
          t.store = { s.store with memory := t.store.memory, writebackPage := n + 1 }
          ∧ t.service = s.service)
      ∧ (page.toList = readBytes s.store.shadow (16 * n) 16 → 15 ≤ n →
          t.store = { s.store with
            memory := t.store.memory, writebackRunning := false, writebackResult := .done, failingPage := 0 }
          ∧ t.service = { s.service with pendingCauses := s.service.pendingCauses ||| 512#12 })
      ∧ (page.toList ≠ readBytes s.store.shadow (16 * n) 16 →
          t.store = { s.store with
            memory := t.store.memory, writebackRunning := false, writebackResult := .failed, failingPage := n }
          ∧ t.service = { s.service with pendingCauses := s.service.pendingCauses ||| 1024#12 })
      ∧ unchangedExcept [.store, .service] s t)

/-! ## Connector samples -/

/-- A sample is classed by the tables of 1.1 and joins the three latest of its input, whose confirmed class becomes the
sampled class when its two samples before were of that class too, and is kept otherwise. A new pilot class, or OPEN
newly confirmed, aborts a running loop test: ABORTED, its error count kept, LOOPTEST_DONE. In a session that stays
linked and whose last STATUS accepts energy with the contactor closed, a pilot that leaves ENERGY for PRESENT withdraws
the claim and lowers A to it, and a return to ENERGY restores the claim; the recompute stands after the four steps of
1.5 (R17) by assumption 7 (1.1, 1.4, 1.5, 1.8, 2.2, 2.3). -/
def Obligations.ThreeAgreeingSamplesConfirm : Prop :=
  ∀ (s : State) (millivolts : Int) (latch earth : Bool) (p : PilotClass) (x : Proximity) (e : Earth) (aborts : Bool),
    p = (if 13000 < millivolts then .shortHigh else if 10500 ≤ millivolts then .none
      else if 7500 ≤ millivolts then .present else if 4500 ≤ millivolts then .energy
      else if 1000 ≤ millivolts then .invalid else .shortLow) →
    x = (if latch then .closed else .opened) → e = (if earth then .ok else .lost) →
    aborts = decide (s.vehicle.loopResult = .running
      ∧ ((s.vehicle.sampled p x e).pilot ≠ s.vehicle.pilot
        ∨ ((s.vehicle.sampled p x e).proximity = .opened ∧ s.vehicle.proximity ≠ .opened))) →
    ∃ t, exec (.connectorSample millivolts latch earth) s = .next t
      ∧ p = pilotClassOf millivolts ∧ x = proximityOf latch ∧ e = earthOf earth
      ∧ t.vehicle.pilotHistory = (s.vehicle.pilotHistory ++ [p]).drop (s.vehicle.pilotHistory.length - 2)
      ∧ t.vehicle.proximityHistory = (s.vehicle.proximityHistory ++ [x]).drop (s.vehicle.proximityHistory.length - 2)
      ∧ t.vehicle.earthHistory = (s.vehicle.earthHistory ++ [e]).drop (s.vehicle.earthHistory.length - 2)
      ∧ (∀ older, s.vehicle.pilotHistory = older ++ [p, p] → t.vehicle.pilot = p)
      ∧ ((∀ older, s.vehicle.pilotHistory ≠ older ++ [p, p]) → t.vehicle.pilot = s.vehicle.pilot)
      ∧ (∀ older, s.vehicle.proximityHistory = older ++ [x, x] → t.vehicle.proximity = x)
      ∧ ((∀ older, s.vehicle.proximityHistory ≠ older ++ [x, x]) → t.vehicle.proximity = s.vehicle.proximity)
      ∧ (∀ older, s.vehicle.earthHistory = older ++ [e, e] → t.vehicle.earth = e)
      ∧ ((∀ older, s.vehicle.earthHistory ≠ older ++ [e, e]) → t.vehicle.earth = s.vehicle.earth)
      ∧ t.vehicle.loopResult = (if aborts then .aborted else s.vehicle.loopResult)
      ∧ t.vehicle.loopWindow = (if aborts then none else s.vehicle.loopWindow)
      ∧ t.vehicle.loopErrors = s.vehicle.loopErrors ∧ t.vehicle.loopIndex = s.vehicle.loopIndex
      ∧ t.service = { s.service with pendingCauses := t.service.pendingCauses }
      ∧ t.service.pendingCauses.getLsbD 11 = (aborts || s.service.pendingCauses.getLsbD 11)
      ∧ s.vehicle.sampled p x e = { s.vehicle with
          pilotHistory := t.vehicle.pilotHistory, proximityHistory := t.vehicle.proximityHistory
          earthHistory := t.vehicle.earthHistory, pilot := t.vehicle.pilot, proximity := t.vehicle.proximity
          earth := t.vehicle.earth }
      ∧ (∀ (w : WorkingCopy) (c : RunCard) (n : Nat) (status : WireStatus) (d : Derived),
          s.store.working = some w → s.tracker.card = some c → s.tracker.countdown = some n →
          s.tracker.readiness.linked = true → s.vehicle.lastStatus = some status →
          status.flags.getLsbD 0 = true → status.flags.getLsbD 1 = true →
          ((t.vehicle.pilot = .present ∧ s.vehicle.pilot = .energy)
            ∨ (t.vehicle.pilot = .energy ∧ s.vehicle.pilot ≠ .energy)) →
          t.vehicle.proximity = .closed → t.vehicle.earth = .ok →
          d = derivedOf w c n s.account.enow status.pvmax.toNat s.composer.pderated status.ecap.toNat →
          t.tracker.derived = some d ∧ t.tracker.readiness = readinessOf c n d
          ∧ t.tracker.urgency = urgencyOf w (readinessOf c n d) d
          ∧ t.tracker.claim =
              claimOf (readinessOf c n d) d s.account.enow (decide (t.vehicle.pilot = .energy)) c.pcond
                s.composer.pderated
          ∧ t.share.allowance = min s.share.allowance t.tracker.claim
          ∧ t.TrackerFollows w c n s.account.enow ∧ s.share.LoweredTo t.tracker.claim t.share ∧ t.LendsByTable)
      ∧ unchangedExcept [.vehicle, .tracker, .account, .share, .service] s t

/-- A sample that leaves a post with a vehicle connected, its latch closed and its earth whole starts a link-up when
readiness is VACANT in LISTENING or RUNNING: the next session number, the first HELLO, readiness LINKING, the account
at zero; a loop test that the same sample ends is aborted first (1.2, 1.8, 2.4, 3.6). -/
def Obligations.ConnectedVehicleStartsLinkUp : Prop :=
  ∀ (s : State) (w : WorkingCopy) (millivolts : Int) (latch earth : Bool) (v : VehicleLine) (aborts : Bool),
    s.store.working = some w → w.role = .post → (s.link.station = .listening ∨ s.link.station = .running) →
    s.tracker.readiness = .vacant →
    v = s.vehicle.sampled (pilotClassOf millivolts) (proximityOf latch) (earthOf earth) →
    aborts = decide (s.vehicle.loopResult = .running
      ∧ (v.pilot ≠ s.vehicle.pilot ∨ (v.proximity = .opened ∧ s.vehicle.proximity ≠ .opened))) →
    (v.pilot = .present ∨ v.pilot = .energy) → v.proximity = .closed → v.earth = .ok →
    ∃ t, exec (.connectorSample millivolts latch earth) s = .next t
      ∧ t.vehicle = { v with
          session := if s.vehicle.session = 255 then 1 else s.vehicle.session + 1
          sessionOpen := true, helloCount := 1
          waiting := s.vehicle.waiting
            ++ [.hello (if s.vehicle.session = 255 then 1 else s.vehicle.session + 1) w.station w.prated]
          loopResult := if aborts then .aborted else s.vehicle.loopResult
          loopWindow := if aborts then none else s.vehicle.loopWindow }
      ∧ t.tracker = { Tracker.reset with readiness := .linking, record := s.tracker.record }
      ∧ t.account = { deltaResidue := 0, delta := 0, inResidue := 0, energyIn := 0, outResidue := 0,
                      energyOut := 0, enow := none, lendable := 0, gate := .notTopped, offer := 0 }
      ∧ t.service = { s.service with
          pendingCauses := if aborts then s.service.pendingCauses ||| 2048#12 else s.service.pendingCauses }
      ∧ unchangedExcept [.vehicle, .tracker, .account, .service] s t

/-- A sensed fault condition that stands at a sample halts a post that is not halted, with the first reason in the
order of the table of 1.5; a STOP with it goes to a session; claim, urgency, L and the offer become 0 and the
allowance and the held amount with them; a loop test that the same sample ends is aborted first (1.2, 1.5, 1.8, 2.5,
6.7). That no recompute for the accepting condition of the same sample comes before the halt is assumption 7, and that
the derived values are then absent is assumption 29. -/
def Obligations.StandingFaultHalts : Prop :=
  ∀ (s : State) (millivolts : Int) (latch earth : Bool) (v : VehicleLine) (r : HaltReason) (aborts : Bool),
    s.isPost = true → (s.link.station = .listening ∨ s.link.station = .running ∨ s.link.station = .clash) →
    s.tracker.readiness ≠ .halted →
    v = s.vehicle.sampled (pilotClassOf millivolts) (proximityOf latch) (earthOf earth) →
    aborts = decide (s.vehicle.loopResult = .running
      ∧ (v.pilot ≠ s.vehicle.pilot ∨ (v.proximity = .opened ∧ s.vehicle.proximity ≠ .opened))) →
    some r = (if v.pilot = .shortLow then some .pilotShortLow
      else if v.pilot = .shortHigh then some .pilotShortHigh
      else if v.earth = .lost ∧ v.pilot ≠ .none then some .earthLost
      else if v.pilot = .invalid then some .pilotInvalid
      else if v.proximity = .opened ∧ v.pilot ≠ .none then some .proximityOpen
      else none) →
    ∃ t, exec (.connectorSample millivolts latch earth) s = .next t
      ∧ t.vehicle = { v with
          helloTimer := none, watchdog := none
          waiting := s.vehicle.waiting.filter (fun f => !f.isPermit)
            ++ (if s.vehicle.sessionOpen then [.stop s.vehicle.session (.halt r)] else [])
          loopResult := if aborts then .aborted else s.vehicle.loopResult
          loopWindow := if aborts then none else s.vehicle.loopWindow }
      ∧ t.tracker = { s.tracker with
          readiness := .halted, haltReason := some r, outcome := some .halted, minuteTimer := none,
          derived := none, urgency := 0, claim := 0 }
      ∧ t.account = { s.account with gate := .notTopped, lendable := 0, offer := 0 }
      ∧ t.share.allowance = 0
      ∧ (0 < s.share.allowance →
          t.share = { s.share with allowance := 0, held := 0, tenure := false, tenureLeft := 0 })
      ∧ t.service = { s.service with
          pendingCauses := s.service.pendingCauses ||| (if aborts then 2050#12 else 2#12) }
      ∧ unchangedExcept [.vehicle, .tracker, .account, .share, .service] s t

/-- A sample that confirms NONE ends a session: a STOP with UNPLUGGED, the outcome settled, the last-session record
written with the account's totals, readiness VACANT and the account cleared (1.7, 2.6, 3.6). A halt without a session is
cleared without a STOP and without a record, and in VACANT the confirmation changes nothing else; a running loop test is
aborted first (1.8). That the halt's outcome goes with it is assumption 29; that the record and the attention set know
no recompute for the accepting condition of the same sample is assumption 7, and that the energy gap is taken from Enow
at that moment is assumption 37. -/
def Obligations.ConfirmedNoneEndsTheSession : Prop :=
  ∀ (s : State) (millivolts : Int) (latch earth : Bool) (v after : VehicleLine) (service : Service) (o : RunOutcome)
    (egap : Option Nat),
    v = s.vehicle.sampled (pilotClassOf millivolts) (proximityOf latch) (earthOf earth) →
    after = (if s.vehicle.loopResult = .running then { v with loopResult := .aborted, loopWindow := none } else v) →
    service = { s.service with
      pendingCauses :=
        if s.vehicle.loopResult = .running then s.service.pendingCauses ||| 2048#12 else s.service.pendingCauses } →
    v.pilot = .none → s.vehicle.pilot ≠ .none →
    egap = (match s.store.working, s.tracker.card, s.account.enow with
      | some w, some card, some enow => some (card.eroute + w.margin - enow)
      | _, _, _ => none) →
    o = (match s.tracker.outcome with
      | some fixed => fixed
      | none => if s.tracker.planMark then (if egap = some 0 then .met else .short) else .noPlan) →
    ∃ t, exec (.connectorSample millivolts latch earth) s = .next t
      ∧ (s.vehicle.sessionOpen = true →
          t.service = service
          ∧ t.vehicle = { after with
            helloTimer := none, watchdog := none, sessionOpen := false, vehicleId := none, lastStatus := none,
            helloCount := 0
            waiting := s.vehicle.waiting.filter (fun f => !f.isPermit) ++ [.stop s.vehicle.session .unplugged] }
          ∧ t.tracker = { Tracker.reset with
              record := some
                { vehicleId := s.vehicle.vehicleId, outcome := o, energyIn := s.account.energyIn
                  energyOut := s.account.energyOut, atRiskMinutes := s.tracker.atRiskMinutes
                  haltReason := if o = .halted then s.tracker.haltReason else none } }
          ∧ t.account = { deltaResidue := 0, delta := 0, inResidue := 0, energyIn := 0, outResidue := 0,
                          energyOut := 0, enow := none, lendable := 0, gate := .notTopped, offer := 0 }
          ∧ t.share.allowance = 0 ∧ s.share.LoweredTo 0 t.share
          ∧ unchangedExcept [.vehicle, .tracker, .account, .share, .service] s t)
      ∧ (s.vehicle.sessionOpen = false → s.tracker.readiness = .halted →
          t.vehicle = after ∧ t.service = service ∧ t.tracker = { Tracker.reset with record := s.tracker.record }
          ∧ unchangedExcept [.vehicle, .tracker, .service] s t)
      ∧ (s.vehicle.sessionOpen = false → s.tracker.readiness = .vacant →
          t.vehicle = after ∧ t.service = service ∧ unchangedExcept [.vehicle, .service] s t)

/-! ## Frames of a session -/

/-- The HELLO reply timer's expiry in LINKING makes another HELLO of the same session after the first and the second,
and halts with LINKUP after the third (1.3). An expiry is taken when its timer stands at 0, and changes nothing
otherwise, by assumption 3. -/
def Obligations.UnansweredHelloIsRepeatedThenHalts : Prop :=
  ∀ (s : State) (w : WorkingCopy), s.store.working = some w →
    ((s.vehicle.helloTimer ≠ some 0 ∨ s.tracker.readiness ≠ .linking) → exec .helloReplyTimerExpiry s = .next s)
    ∧ (s.vehicle.helloTimer = some 0 → s.tracker.readiness = .linking →
      ∃ t, exec .helloReplyTimerExpiry s = .next t
        ∧ (s.vehicle.helloCount < 3 →
            t.vehicle = { s.vehicle with
              helloTimer := none, helloCount := s.vehicle.helloCount + 1
              waiting := s.vehicle.waiting ++ [.hello s.vehicle.session w.station w.prated] }
            ∧ unchangedExcept [.vehicle] s t)
        ∧ (3 ≤ s.vehicle.helloCount →
            s.Halts .linkup t ∧ t.share.allowance = 0
            ∧ unchangedExcept [.vehicle, .tracker, .account, .share, .service] s t))

/-- The waiting forward frames leave the line first in, first out, and a HELLO that has left in LINKING sets the reply
timer to 2 s. With none waiting, the next test frame of a running loop test is sent when none is in flight, and its
return window of 5 ms opens; otherwise nothing happens. A HELLO, a PERMIT and a STOP are the kind byte and the fields of
10.6, low byte first, with the CRC over them (1.3, 1.4, 1.8, 10.4, 10.6; that frames wait in State until this command is
assumption 11, that a test frame is sent by it assumption 13, and that a HELLO that leaves outside LINKING sets no timer
assumption 12). -/
def Obligations.ForwardFramesLeaveInOrder : Prop :=
  (∀ (session : Byte) (station prated : Nat) (body : List Byte), station ≤ 255 → prated ≤ 65535 →
    body = [0x11, session, BitVec.ofNat 8 station, BitVec.ofNat 8 (prated % 256), BitVec.ofNat 8 (prated / 256)] →
    (ForwardFrame.hello session station prated).characters = body ++ bytesOfWord (crc16 body))
  ∧ (∀ (session : Byte) (demand : Int) (body : List Byte), -32768 ≤ demand → demand ≤ 32767 →
    body = [0x12, session, BitVec.ofInt 8 (demand % 256), BitVec.ofInt 8 (demand / 256)] →
    (ForwardFrame.permit session demand).characters = body ++ bytesOfWord (crc16 body))
  ∧ (∀ (session code : Byte) (reason : StopReason) (body : List Byte),
    (reason, code) ∈
      [(.halt .pilotShortLow, 1), (.halt .pilotShortHigh, 2), (.halt .pilotInvalid, 3), (.halt .proximityOpen, 4),
       (.halt .earthLost, 5), (.halt .vehicleSilent, 6), (.halt .crossed, 7), (.halt .linkup, 8),
       (.halt .vehicleFault, 9), (.halt .stageSilent, 10), (.halt .stageFault, 11), (.halt .stageTimeout, 12),
       (.unplugged, 13), (StopReason.restart, (14 : Byte))] →
    body = [0x13, session, code] →
    (ForwardFrame.stop session reason).characters = body ++ bytesOfWord (crc16 body))
  ∧ ∀ s : State, ∃ t, exec .forwardFrameSend s = .next t
    ∧ (s.vehicle.waiting = [] →
        (s.vehicle.loopResult = .running → s.vehicle.loopWindow = none →
          t.vehicle = { s.vehicle with loopWindow := some 5000, tx := testFrame s.vehicle.loopIndex }
          ∧ unchangedExcept [.vehicle] s t)
        ∧ ((s.vehicle.loopResult ≠ .running ∨ s.vehicle.loopWindow ≠ none) → t = s))
    ∧ (∀ f rest, s.vehicle.waiting = f :: rest →
        t.vehicle = { s.vehicle with waiting := rest, tx := f.characters, helloTimer := t.vehicle.helloTimer }
        ∧ (∀ session station prated, f = .hello session station prated →
            t.vehicle.helloTimer =
              if s.tracker.readiness = .linking then some 2000000 else s.vehicle.helloTimer)
        ∧ (∀ session demand, f = .permit session demand → t.vehicle.helloTimer = s.vehicle.helloTimer)
        ∧ (∀ session reason, f = .stop session reason → t.vehicle.helloTimer = s.vehicle.helloTimer)
        ∧ unchangedExcept [.vehicle] s t)

/-- An IDENT in LINKING completes the link-up: id stored, reply timer stopped, watchdog started, the card normalised
and stored, the countdown set, and the derived values, readiness, urgency and claim of 2.2 to 2.4 for a session without
a STATUS: the claim is min(Pcond, Pderated) in CONDITIONING and 0 in every other state, and an A above it is lowered to
it. In any other state it changes nothing (1.3, 2.1 to 2.4, 3.4, 6.7). -/
def Obligations.IdentCompletesLinkUp : Prop :=
  ∀ (s : State) (id : VehicleId) (card : WireCard), s.vehicle.loopResult ≠ .running →
    (s.tracker.readiness ≠ .linking → exec (.identReceived id card) s = .next s)
    ∧ (∀ (w : WorkingCopy) (c : RunCard), s.tracker.readiness = .linking → s.store.working = some w →
      s.vehicle.lastStatus = none → s.account.enow = none →
      c.departure = (if 1441 ≤ card.departure.toNat ∧ card.departure.toNat ≤ 65534 then 1440
        else card.departure.toNat) →
      c.eroute = card.eroute.toNat →
      c.conditioning = (if card.conditioningPresent = 0 ∨ card.tcond = 0 then none
        else some { pcond := card.pcond.toNat, tcond := if 60 < card.tcond.toNat then 60 else card.tcond.toNat }) →
      ∃ t, exec (.identReceived id card) s = .next t
        ∧ t.vehicle = { s.vehicle with helloTimer := none, vehicleId := some id, watchdog := some (w.vwd * 1000) }
        ∧ t.tracker.card = some c ∧ t.tracker.countdown = some c.departure
        ∧ t.tracker.minuteTimer = (if c.departure = 0 ∨ c.departure = 65535 then none else some 60000000)
        ∧ t.tracker.planMark = (s.tracker.planMark || decide (c.departure ≠ 65535))
        ∧ t.tracker.outcome = s.tracker.outcome ∧ t.tracker.record = s.tracker.record
        ∧ t.tracker.readiness =
            (if c.departure = 65535 then .unplanned else if c.departure = 0 then .due
            else if c.conditioning.any (fun k => decide (c.departure ≤ k.tcond)) then .conditioning
            else .charging)
        ∧ t.tracker.urgency =
            (if c.departure = 65535 ∨ c.departure = 0 then 0
            else if c.conditioning.any (fun k => decide (c.departure ≤ k.tcond)) then 3 else 1)
        ∧ (∃ d, t.tracker.derived = some d ∧ d.efloor = c.eroute + w.margin ∧ d.egap = none ∧ d.tmin = none
            ∧ d.slack = none ∧ d.etarget = 0)
        ∧ t.tracker.claim =
            (if t.tracker.readiness = .conditioning then
              min (c.conditioning.elim 0 Conditioning.pcond) s.composer.pderated
            else 0)
        ∧ t.tracker = { s.tracker with
            card := some c, countdown := some c.departure
            minuteTimer := if c.departure = 0 ∨ c.departure = 65535 then none else some 60000000
            planMark := s.tracker.planMark || decide (c.departure ≠ 65535)
            derived := t.tracker.derived, readiness := t.tracker.readiness, urgency := t.tracker.urgency
            claim := t.tracker.claim }
        ∧ t.TrackerFollows w c c.departure none
        ∧ s.share.LoweredTo t.tracker.claim t.share
        ∧ t.account = { s.account with gate := .notTopped, lendable := 0, offer := 0 }
        ∧ unchangedExcept [.vehicle, .tracker, .account, .share] s t)

/-- A STATUS with the session's echo, in a linked state: it is stored whole, the watchdog restarts, the account
reconciles, and the tracker recomputes by 2.2 to 2.4 from the reconciled estimate, with urgency and claim by the tables
of 2.3; an entry to DUE, or an outcome that waits in DUE for this STATUS, fixes the outcome by 2.5; a claim below A
lowers A; L, the gate and the offer are those of 3.4 and 3.5 for what the STATUS leaves; with the vehicle-fault flag
clear nothing halts (1.4, 2.2, 3.3, 6.7). -/
def Obligations.MatchingStatusIsTaken : Prop :=
  ∀ (s : State) (w : WorkingCopy) (c : RunCard) (n enow gap pmax tmin : Nat) (accepting : Bool) (status : WireStatus),
    s.store.working = some w → s.tracker.card = some c → s.tracker.countdown = some n →
    s.tracker.readiness.linked = true → s.vehicle.loopResult ≠ .running →
    status.echo = s.vehicle.session → status.flags.getLsbD 2 = false →
    enow = min status.eveh.toNat status.ecap.toNat →
    gap = c.eroute + w.margin - enow → pmax = min status.pvmax.toNat s.composer.pderated →
    tmin = (if gap = 0 then 0 else if pmax = 0 then 65535 else min 65535 ((gap * 60 + pmax - 1) / pmax)) →
    accepting = (s.vehicle.pilot == .energy && status.flags.getLsbD 0 && status.flags.getLsbD 1) →
    ∃ t d, exec (.statusReceived status) s = .next t
      ∧ t.vehicle = { s.vehicle with lastStatus := some status, watchdog := some (w.vwd * 1000) }
      ∧ t.account = { s.account with
          delta := 0, deltaResidue := 0, enow := some enow
          gate := t.account.gate, lendable := t.account.lendable, offer := t.account.offer }
      ∧ t.LendsByTable
      ∧ t.tracker = { s.tracker with
          derived := some d, readiness := t.tracker.readiness, urgency := t.tracker.urgency
          claim := t.tracker.claim, outcome := t.tracker.outcome }
      ∧ d = { efloor := c.eroute + w.margin, egap := some gap, pmax := pmax, tmin := some tmin
              slack := if n = 65535 then none else some ((n : Int) - tmin)
              windowOpen := c.conditioning.any fun k => decide (0 < n ∧ n ≤ k.tcond)
              etarget := status.ecap.toNat * w.target / 100 }
      ∧ t.tracker.readiness =
          (if c.departure = 65535 then .unplanned else if n = 0 then .due else if d.windowOpen then .conditioning
          else if gap = 0 then .topped
          else if n ≠ 65535 ∧ n < tmin then .atRisk else .charging)
      ∧ t.tracker.urgency =
          (if t.tracker.readiness = .unplanned ∨ t.tracker.readiness = .due then 0 else if d.windowOpen then 3
          else if gap = 0 then 0 else if n ≠ 65535 ∧ n < tmin + w.s3 then 3
          else if n ≠ 65535 ∧ n < tmin + w.s2 then 2 else 1)
      ∧ ((t.tracker.readiness = .unplanned ∨ t.tracker.readiness = .due ∨ t.tracker.readiness = .topped) →
          t.tracker.claim = if accepting ∧ enow < d.etarget then pmax else 0)
      ∧ ((t.tracker.readiness = .charging ∨ t.tracker.readiness = .atRisk) →
          t.tracker.claim = if accepting then pmax else 0)
      ∧ (t.tracker.readiness = .conditioning →
          t.tracker.claim =
            min ((if accepting ∧ (0 < gap ∨ enow < d.etarget) then pmax else 0) + c.pcond) s.composer.pderated)
      ∧ t.tracker.outcome =
          (if t.tracker.readiness = .due ∧ (s.tracker.readiness ≠ .due ∨ s.tracker.outcome = none) then
            some (if gap = 0 then .met else .short)
          else s.tracker.outcome)
      ∧ t.share.allowance = min s.share.allowance t.tracker.claim
      ∧ s.share.LoweredTo t.tracker.claim t.share
      ∧ t.service =
          (if t.tracker.readiness = .atRisk ∧ s.tracker.readiness ≠ .atRisk then
            { s.service with pendingCauses := s.service.pendingCauses ||| 1#12 }
          else s.service)
      ∧ unchangedExcept [.vehicle, .tracker, .account, .share, .service] s t

/-- Three ways a linked session halts: a STATUS with another echo (CROSSED, its contents dropped), a STATUS with the
vehicle-fault flag (VEHICLE_FAULT, its contents stored), and the watchdog's expiry (VEHICLE_SILENT). Each stops both
timers, sends one STOP with the reason, enters HALTED, lowers A, L and the offer to 0 and raises HALTED (1.2, 1.4, 1.6,
2.5, 3.4, 6.7); a vehicle fault reconciles and recomputes first, which may raise AT_RISK_ENTERED. The expiry is taken
when the watchdog stands at 0, and changes nothing otherwise, by assumption 3. -/
def Obligations.LinkedSessionHalts : Prop :=
  ∀ (s : State) (w : WorkingCopy), s.store.working = some w → s.tracker.card.isSome = true →
    s.tracker.readiness.linked = true → s.vehicle.sessionOpen = true → s.vehicle.loopResult ≠ .running →
    (∀ status : WireStatus, status.echo ≠ s.vehicle.session →
      ∃ t, exec (.statusReceived status) s = .next t
        ∧ s.Halts .crossed t
        ∧ t.vehicle.waiting = s.vehicle.waiting.filter (fun f => !f.isPermit)
            ++ [.stop s.vehicle.session (.halt .crossed)]
        ∧ unchangedExcept [.vehicle, .tracker, .account, .share, .service] s t)
    ∧ (∀ status : WireStatus, status.echo = s.vehicle.session → status.flags.getLsbD 2 = true →
      ∃ t, exec (.statusReceived status) s = .next t
        ∧ (s.setVehicle { s.vehicle with lastStatus := some status }).HaltedBy .vehicleFault t
        ∧ t.vehicle.waiting = s.vehicle.waiting.filter (fun f => !f.isPermit)
            ++ [.stop s.vehicle.session (.halt .vehicleFault)]
        ∧ t.account = { s.account with
            delta := 0, deltaResidue := 0, enow := some (min status.eveh.toNat status.ecap.toNat)
            gate := .notTopped, lendable := 0, offer := 0 }
        ∧ t.service = { s.service with pendingCauses := t.service.pendingCauses }
        ∧ (t.service.pendingCauses = s.service.pendingCauses ||| 2#12
          ∨ t.service.pendingCauses = s.service.pendingCauses ||| 3#12)
        ∧ unchangedExcept [.vehicle, .tracker, .account, .share, .service] s t)
    ∧ (s.vehicle.watchdog = some 0 →
      ∃ t, exec .vehicleWatchdogExpiry s = .next t
        ∧ s.Halts .vehicleSilent t
        ∧ t.vehicle.waiting = s.vehicle.waiting.filter (fun f => !f.isPermit)
            ++ [.stop s.vehicle.session (.halt .vehicleSilent)]
        ∧ unchangedExcept [.vehicle, .tracker, .account, .share, .service] s t)
    ∧ (s.vehicle.watchdog ≠ some 0 → exec .vehicleWatchdogExpiry s = .next s)

/-- A CARD in a linked state replaces the stored card whole, sets the countdown, restarts the minute timer and
recomputes at once: derived values, readiness, urgency and claim by the tables of 2.2 to 2.4, AT_RISK_ENTERED on an
entry to AT_RISK, A lowered to a lower claim, and L, the gate and the offer by 3.4 and 3.5; the watchdog and the last
STATUS are not touched (1.4, 2.1 to 2.5, 3.4, 3.5, 6.7; that a card stored in DUE that leads to DUE fixes the outcome
again is assumption 21). -/
def Obligations.CardReplacesTheStoredCard : Prop :=
  ∀ (s : State) (w : WorkingCopy) (card : WireCard) (c : RunCard),
    s.store.working = some w → s.vehicle.loopResult ≠ .running → s.tracker.readiness.linked = true →
    c.departure = (if 1441 ≤ card.departure.toNat ∧ card.departure.toNat ≤ 65534 then 1440
      else card.departure.toNat) →
    c.eroute = card.eroute.toNat →
    c.conditioning = (if card.conditioningPresent = 0 ∨ card.tcond = 0 then none
      else some { pcond := card.pcond.toNat, tcond := if 60 < card.tcond.toNat then 60 else card.tcond.toNat }) →
    ∃ t d, exec (.cardReceived card) s = .next t
      ∧ t.tracker = { s.tracker with
          card := some c, countdown := some c.departure
          minuteTimer := if c.departure = 0 ∨ c.departure = 65535 then none else some 60000000
          planMark := s.tracker.planMark || decide (c.departure ≠ 65535)
          derived := some d, readiness := t.tracker.readiness, urgency := t.tracker.urgency
          claim := t.tracker.claim, outcome := t.tracker.outcome }
      ∧ t.TrackerFollows w c c.departure s.account.enow
      ∧ d.efloor = c.eroute + w.margin
      ∧ d.egap = s.account.enow.map (fun e => c.eroute + w.margin - e)
      ∧ d.windowOpen = c.conditioning.any (fun k => decide (0 < c.departure ∧ c.departure ≤ k.tcond))
      ∧ (c.departure = 65535 → t.tracker.readiness = .unplanned)
      ∧ (c.departure = 0 → t.tracker.readiness = .due
          ∧ (d.egap = some 0 → t.tracker.outcome = some .met)
          ∧ (∀ g, d.egap = some (g + 1) → t.tracker.outcome = some .short)
          ∧ (d.egap = none → t.tracker.outcome = s.tracker.outcome))
      ∧ (c.departure ≠ 0 → t.tracker.outcome = s.tracker.outcome)
      ∧ t.share.allowance = min s.share.allowance t.tracker.claim ∧ s.share.LoweredTo t.tracker.claim t.share
      ∧ t.account = { s.account with
          gate := t.account.gate, lendable := t.account.lendable, offer := t.account.offer }
      ∧ t.LendsByTable
      ∧ t.service =
          (if t.tracker.readiness = .atRisk ∧ s.tracker.readiness ≠ .atRisk then
            { s.service with pendingCauses := s.service.pendingCauses ||| 1#12 }
          else s.service)
      ∧ unchangedExcept [.tracker, .account, .share, .service] s t

/-- A back frame with a bad CRC is counted, up to 255, and a frame of unknown kind or wrong length is not; neither
does anything else (1.4, 1.8; that a back frame of fewer than three characters counts as one with a bad CRC is
assumption 35). -/
def Obligations.DamagedBackFrameIsCounted : Prop :=
  ∀ (s : State) (frame : List Byte), s.vehicle.loopResult ≠ .running →
    ((frame.length < 3 ∨ frame.drop (frame.length - 2) ≠ bytesOfWord (crc16 (frame.take (frame.length - 2)))) →
      ∃ t, exec (.vehicleFrameDiscarded frame) s = .next t
        ∧ t.vehicle = { s.vehicle with crcErrors := if s.vehicle.crcErrors < 255 then s.vehicle.crcErrors + 1
                                                    else s.vehicle.crcErrors }
        ∧ unchangedExcept [.vehicle] s t)
    ∧ (∀ kind payload, frame = kind :: payload ++ bytesOfWord (crc16 (kind :: payload)) →
        (kind ≠ 0x21 ∨ payload.length ≠ 14) → (kind ≠ 0x22 ∨ payload.length ≠ 10) →
        (kind ≠ 0x23 ∨ payload.length ≠ 8) →
        exec (.vehicleFrameDiscarded frame) s = .next s)

/-- The minute timer's expiry counts an AT_RISK minute, lowers the countdown by 1, recomputes and restarts the timer
while minutes are left; the recompute follows the tables of 2.2 to 2.4, raises AT_RISK_ENTERED on an entry to AT_RISK,
lowers A to a lower claim and brings L, the gate and the offer to 3.4 and 3.5; the step to 0 enters DUE and fixes an
outcome that is not fixed in DUE already (2.1 to 2.5, 3.4, 3.5, 6.7). The expiry is taken when the timer
stands at 0, and changes nothing otherwise, by assumption 3. -/
def Obligations.MinuteStepsTheCountdown : Prop :=
  ∀ s : State,
    ((s.tracker.minuteTimer ≠ some 0 ∨ s.tracker.readiness.linked = false) → exec .minuteTimerExpiry s = .next s)
    ∧ (∀ (w : WorkingCopy) (c : RunCard) (n : Nat),
      s.tracker.minuteTimer = some 0 → s.tracker.readiness.linked = true → s.store.working = some w →
      s.tracker.card = some c → c.departure ≤ 1440 → s.tracker.countdown = some (n + 1) → n + 1 ≤ 1440 →
      ∃ t d, exec .minuteTimerExpiry s = .next t
        ∧ t.tracker = { s.tracker with
            countdown := some n, minuteTimer := if n = 0 then none else some 60000000
            atRiskMinutes :=
              if s.tracker.readiness = .atRisk ∧ s.tracker.atRiskMinutes < 65535 then s.tracker.atRiskMinutes + 1
              else s.tracker.atRiskMinutes
            derived := some d, readiness := t.tracker.readiness, urgency := t.tracker.urgency
            claim := t.tracker.claim, outcome := t.tracker.outcome }
        ∧ t.TrackerFollows w c n s.account.enow
        ∧ d.egap = s.account.enow.map (fun e => c.eroute + w.margin - e)
        ∧ (n = 0 → t.tracker.readiness = .due ∧ t.tracker.urgency = 0)
        ∧ (n = 0 → (s.tracker.readiness ≠ .due ∨ s.tracker.outcome = none) →
            (d.egap = some 0 → t.tracker.outcome = some .met)
            ∧ (∀ g, d.egap = some (g + 1) → t.tracker.outcome = some .short)
            ∧ (d.egap = none → t.tracker.outcome = s.tracker.outcome))
        ∧ ((0 < n ∨ (s.tracker.readiness = .due ∧ s.tracker.outcome ≠ none)) →
            t.tracker.outcome = s.tracker.outcome)
        ∧ (0 < n → (∃ k, c.conditioning = some k ∧ n ≤ k.tcond) → t.tracker.readiness = .conditioning
            ∧ t.tracker.urgency = 3)
        ∧ s.share.LoweredTo t.tracker.claim t.share
        ∧ t.account = { s.account with
            gate := t.account.gate, lendable := t.account.lendable, offer := t.account.offer }
        ∧ t.LendsByTable
        ∧ t.service =
            (if t.tracker.readiness = .atRisk ∧ s.tracker.readiness ≠ .atRisk then
              { s.service with pendingCauses := s.service.pendingCauses ||| 1#12 }
            else s.service)
        ∧ unchangedExcept [.tracker, .account, .share, .service] s t)

/-- LOOPTEST_START and LOOPTEST_STOP are answered by the tables of 1.8: BUSY, OK or REFUSED; an OK start sets the result
to RUNNING and the error count to 0, with frame 0 the next to be sent, and an OK stop aborts, keeps the error count and
raises LOOPTEST_DONE (that the frame waits for FORWARD_FRAME_SEND is the model's choice, assumption 13). -/
def Obligations.LoopTestRequestsAreAnswered : Prop :=
  ∀ (s : State) (answer : Status → BitVec 12 → Service),
    (∀ status causes, answer status causes =
      { s.service with
        response := some { status := status, data := [] }, tx := List.replicate 4 0, pendingCauses := causes }) →
    (s.vehicle.loopResult = .running →
      (∃ t, exec .looptestStart s = .next t
        ∧ t.service = answer .busy s.service.pendingCauses ∧ unchangedExcept [.service] s t)
      ∧ (∃ t, exec .looptestStop s = .next t
        ∧ t.service = answer .ok (s.service.pendingCauses ||| 2048#12)
        ∧ t.vehicle = { s.vehicle with loopResult := .aborted, loopWindow := none }
        ∧ unchangedExcept [.service, .vehicle] s t))
    ∧ (s.vehicle.loopResult ≠ .running →
      (∃ t, exec .looptestStop s = .next t
        ∧ t.service = answer .refused s.service.pendingCauses ∧ unchangedExcept [.service] s t)
      ∧ (s.tracker.readiness = .vacant → s.vehicle.pilot = .none → s.vehicle.proximity = .closed →
        ∃ t, exec .looptestStart s = .next t
          ∧ t.vehicle = { s.vehicle with
              loopResult := .running, loopErrors := 0, loopIndex := 0, loopWindow := none }
          ∧ t.service = answer .ok s.service.pendingCauses ∧ unchangedExcept [.service, .vehicle] s t)
      ∧ ((s.tracker.readiness ≠ .vacant ∨ s.vehicle.pilot ≠ .none ∨ s.vehicle.proximity ≠ .closed) →
        ∃ t, exec .looptestStart s = .next t
          ∧ t.service = answer .refused s.service.pendingCauses ∧ unchangedExcept [.service] s t))

/-- While a loop test runs, the first frame in the return window decides the frame in flight, and the window's end
decides it as missing: a pass adds nothing and anything else adds 1 to the error counter; then the next frame is to be
sent, or after index 255 the test ends with PASS or FAIL and LOOPTEST_DONE. A further frame, and any frame with no
window open, is discarded. A test frame carries its index i and the bytes (i + 37 j) mod 256 (1.8; that each next frame
waits for FORWARD_FRAME_SEND is the model's choice, assumption 13, and that the window's end is taken when it stands at
0 is assumption 3). -/
def Obligations.LoopTestOutcomesAreCounted : Prop :=
  ∀ (s : State) (i : Nat), s.vehicle.loopResult = .running → s.vehicle.loopIndex = i →
    (∀ bytes, bytes = 0x1F :: BitVec.ofNat 8 i :: ((List.range 8).map fun j => BitVec.ofNat 8 ((i + 37 * j) % 256)) →
      testFrame i = bytes ++ bytesOfWord (crc16 bytes))
    ∧ (∀ frame, s.vehicle.loopWindow = none → exec (.testFrameReturn frame) s = .next s)
    ∧ (∀ frame left errors, s.vehicle.loopWindow = some left →
      errors = (if frame = testFrame i then s.vehicle.loopErrors else s.vehicle.loopErrors + 1) →
      ∃ t, exec (.testFrameReturn frame) s = .next t
        ∧ (i < 255 → t.vehicle = { s.vehicle with loopErrors := errors, loopIndex := i + 1, loopWindow := none }
            ∧ (∀ further, exec (.testFrameReturn further) t = .next t)
            ∧ unchangedExcept [.vehicle] s t)
        ∧ (255 ≤ i → t.vehicle = { s.vehicle with
              loopErrors := errors, loopResult := if errors = 0 then .pass else .fail, loopWindow := none }
            ∧ t.service = { s.service with pendingCauses := s.service.pendingCauses ||| 2048#12 }
            ∧ unchangedExcept [.vehicle, .service] s t))
    ∧ (s.vehicle.loopWindow ≠ some 0 → exec .returnWindowExpiry s = .next s)
    ∧ (s.vehicle.loopWindow = some 0 →
      ∃ t, exec .returnWindowExpiry s = .next t
        ∧ (i < 255 → t.vehicle = { s.vehicle with
              loopErrors := s.vehicle.loopErrors + 1, loopIndex := i + 1, loopWindow := none }
            ∧ unchangedExcept [.vehicle] s t)
        ∧ (255 ≤ i → t.vehicle = { s.vehicle with
              loopErrors := s.vehicle.loopErrors + 1, loopResult := .fail, loopWindow := none }
            ∧ t.service = { s.service with pendingCauses := s.service.pendingCauses ||| 2048#12 }
            ∧ unchangedExcept [.vehicle, .service] s t))

/-! ## Readiness and the energy account -/

/-- The tables of 2.3: the urgency by the first line that applies, and the claim by the readiness state and the
accepting condition; and its laws: the urgency is 3 in AT_RISK and CONDITIONING, and 0 whenever the energy gap is 0 and
the conditioning window is closed; and no claim exceeds the derated rated power. -/
def Obligations.UrgencyAndClaimLaws : Prop :=
  ∀ (w : WorkingCopy) (c : RunCard) (n pvmax pderated ecap toward base : Nat) (enow : Option Nat) (d : Derived)
    (r : Readiness) (accepting : Bool),
    d = derivedOf w c n enow pvmax pderated ecap → r = readinessOf c n d →
    toward = (if enow.any fun e => decide (e < d.etarget) then d.pmax else 0) →
    base = (if (d.egap.any fun g => decide (0 < g)) ∨ (enow.any fun e => decide (e < d.etarget)) then d.pmax else 0) →
    (((r = .unplanned ∨ r = .due) → urgencyOf w r d = 0)
      ∧ (r ≠ .unplanned → r ≠ .due →
        (d.windowOpen = true → urgencyOf w r d = 3)
        ∧ (d.windowOpen = false →
          (d.egap = some 0 → urgencyOf w r d = 0) ∧ (d.egap = none → urgencyOf w r d = 1)
          ∧ (∀ g slack, d.egap = some (g + 1) → d.slack = some slack →
            (slack < w.s3 → urgencyOf w r d = 3)
            ∧ ((w.s3 : Int) ≤ slack → slack < w.s2 → urgencyOf w r d = 2)
            ∧ ((w.s3 : Int) ≤ slack → (w.s2 : Int) ≤ slack → urgencyOf w r d = 1)))))
    ∧ ((r = .unplanned ∨ r = .due ∨ r = .topped) →
        claimOf r d enow accepting c.pcond pderated = if accepting then toward else 0)
    ∧ ((r = .charging ∨ r = .atRisk) → claimOf r d enow accepting c.pcond pderated = if accepting then d.pmax else 0)
    ∧ (r = .conditioning →
        claimOf r d enow accepting c.pcond pderated =
          if accepting then min (base + c.pcond) pderated else min c.pcond pderated)
    ∧ (r = .atRisk ∨ r = .conditioning → urgencyOf w r d = 3)
    ∧ (d.egap = some 0 → d.windowOpen = false → urgencyOf w r d = 0)
    ∧ urgencyOf w r d ≤ 3
    ∧ claimOf r d enow accepting c.pcond pderated ≤ pderated

/-- Integration loses no energy: a measured power moves the signed accumulator by exactly itself, and the in or the
out accumulator by its magnitude, until a total stands at its limit; every residue stays below one transfer (3.1,
3.2). -/
def Obligations.IntegrationKeepsEveryUnit : Prop :=
  ∀ (a : Account) (p : Int), -32768 ≤ p → p ≤ 32767 →
    -36000 < a.deltaResidue → a.deltaResidue < 36000 → a.inResidue < 36000 → a.outResidue < 36000 →
    -32767 ≤ a.delta → a.delta ≤ 32767 → a.energyIn ≤ 65535 → a.energyOut ≤ 65535 →
    (-32767 < a.delta → a.delta < 32767 →
      36000 * (integrate p a).delta + (integrate p a).deltaResidue = 36000 * a.delta + a.deltaResidue + p)
    ∧ (a.energyIn < 65535 →
      36000 * ((integrate p a).energyIn : Int) + (integrate p a).inResidue
        = 36000 * a.energyIn + a.inResidue + max p 0)
    ∧ (a.energyOut < 65535 →
      36000 * ((integrate p a).energyOut : Int) + (integrate p a).outResidue
        = 36000 * a.energyOut + a.outResidue + max (-p) 0)
    ∧ integrate p a = { a with
        deltaResidue := if 36000 ≤ a.deltaResidue + p then a.deltaResidue + p - 36000
          else if a.deltaResidue + p ≤ -36000 then a.deltaResidue + p + 36000 else a.deltaResidue + p
        delta := if 36000 ≤ a.deltaResidue + p then min 32767 (a.delta + 1)
          else if a.deltaResidue + p ≤ -36000 then max (-32767) (a.delta - 1) else a.delta
        inResidue := if 36000 ≤ a.inResidue + p.toNat then a.inResidue + p.toNat - 36000 else a.inResidue + p.toNat
        energyIn := if 36000 ≤ a.inResidue + p.toNat then min 65535 (a.energyIn + 1) else a.energyIn
        outResidue :=
          if 36000 ≤ a.outResidue + (-p).toNat then a.outResidue + (-p).toNat - 36000 else a.outResidue + (-p).toNat
        energyOut := if 36000 ≤ a.outResidue + (-p).toNat then min 65535 (a.energyOut + 1) else a.energyOut }
    ∧ -36000 < (integrate p a).deltaResidue ∧ (integrate p a).deltaResidue < 36000
    ∧ (integrate p a).inResidue < 36000 ∧ (integrate p a).outResidue < 36000
    ∧ -32767 ≤ (integrate p a).delta ∧ (integrate p a).delta ≤ 32767
    ∧ (integrate p a).energyIn ≤ 65535 ∧ (integrate p a).energyOut ≤ 65535
    ∧ a.energyIn ≤ (integrate p a).energyIn ∧ a.energyOut ≤ (integrate p a).energyOut

/-- L, the lending gate and the discharge offer are set by the first line of the table of 3.4 that applies and by 3.5,
at the account's own update. -/
def Obligations.LendableUpdateFollowsTheTable : Prop :=
  ∀ s : State,
    (s.tracker.readiness ≠ .topped →
      ∃ t, exec .lendableUpdate s = .next t
        ∧ t.account = { s.account with gate := .notTopped, lendable := 0, offer := 0 }
        ∧ unchangedExcept [.account] s t)
    ∧ (∀ w c d n e, s.tracker.readiness = .topped → s.store.working = some w → s.tracker.card = some c →
      s.tracker.derived = some d → s.tracker.countdown = some n → s.account.enow = some e →
      ∃ t, exec .lendableUpdate s = .next t
        ∧ (n ≤ w.protectWindow → t.account = { s.account with gate := .inWindow, lendable := 0, offer := 0 })
        ∧ (w.protectWindow < n → (e : Int) - d.efloor - w.lendguard ≤ 0 →
            t.account = { s.account with gate := .belowGuard, lendable := 0, offer := 0 })
        ∧ (w.protectWindow < n → 0 < (e : Int) - d.efloor - w.lendguard →
            t.account = { s.account with
              gate := .isOpen, lendable := e - d.efloor - w.lendguard
              offer := min (s.vehicle.lastStatus.elim 0 fun k => k.pvdis.toNat) w.pdismax })
        ∧ unchangedExcept [.account] s t)

/-! ## The depot link: timers and sending -/

/-- The listen timer's expiry in LISTENING enters RUNNING: the sequence generator seeded with 257 times the station
number and advanced four steps, the announce timer loaded with T_ann - 8 ms plus its four lowest bits, a post's last
allocation time set, and ALONE entered with an empty table, which lowers a post's A to the island allowance, ends
tenure, lowers each reserve share to the island portion and the response to the shares (4.2, 4.3, 5.4, 6.1, 6.2, 6.9,
7.6). The expiry is taken when the timer stands at 0, and changes nothing otherwise, by assumption 3. -/
def Obligations.ListenPeriodEndsInRunning : Prop :=
  ∀ s : State,
    ((s.link.listenTimer ≠ some 0 ∨ s.link.station ≠ .listening) → exec .listenTimerExpiry s = .next s)
    ∧ (∀ (w : WorkingCopy) (x : Word) (share : Share) (island : Nat),
      island = min s.tracker.claim
        ((((w.fcap : Int) - w.site - ((w.fcap * w.guard / 1000 : Nat) : Int) - w.upcommit) / (w.isldiv : Int)).toNat) →
      s.store.working = some w → s.link.station = .listening → s.link.listenTimer = some 0 →
      x = sequenceStep (sequenceStep (sequenceStep (sequenceStep (BitVec.ofNat 16 (257 * w.station))))) →
      share = { s.share with
        lastAllocation := if w.role = .post then some s.clock else s.share.lastAllocation } →
      ∃ t, exec .listenTimerExpiry s = .next t
        ∧ t.link = { s.link with
            station := .running, listenTimer := none, sequence := some x
            announceTimer := some ((w.tann * 10 - 8 + x.toNat % 16) * 1000) }
        ∧ (s.peers.entries ≠ [] → t.share = share ∧ unchangedExcept [.link, .share] s t)
        ∧ (s.peers.entries = [] →
            t.peers = { entries := [], alone := true }
            ∧ t.service = { s.service with pendingCauses := s.service.pendingCauses ||| 64#12 }
            ∧ (w.role = .post →
                t.share = { share with
                  tenure := false, held := 0, tenureLeft := 0
                  allowance := min s.share.allowance island }
                ∧ t.reserve = { s.reserve with
                    upShare := min s.reserve.upShare (min s.reserve.offerUp (w.upcommit / w.isldiv))
                    downShare := min s.reserve.downShare (min s.reserve.offerDown (w.dncommit / w.isldiv))
                    response := max (-(t.reserve.downShare : Int)) (min (t.reserve.upShare : Int) s.reserve.response) })
            ∧ (w.role = .meter → t.share = s.share ∧ t.reserve = s.reserve)
            ∧ unchangedExcept [.link, .share, .peers, .reserve, .service] s t))

/-- The sequence generator shifts one place toward bit 0 and takes the exclusive-or of bits 0, 2, 3 and 5 as its new
bit 15; a load takes four such steps; it starts at 257 times the station number and never reaches 0, and each reload
value lies from T_ann - 8 ms to T_ann + 7 ms (4.3). -/
def Obligations.SequenceGeneratorKeepsReloadsNear : Prop :=
  (∀ x : Word,
    (sequenceStep x).getLsbD 15 = (x.getLsbD 0 ^^ x.getLsbD 2 ^^ x.getLsbD 3 ^^ x.getLsbD 5)
    ∧ (∀ i, i < 15 → (sequenceStep x).getLsbD i = x.getLsbD (i + 1))
    ∧ sequenceLoad x = sequenceStep (sequenceStep (sequenceStep (sequenceStep x)))
    ∧ (x ≠ 0 → sequenceLoad x ≠ 0))
  ∧ (∀ station, 1 ≤ station → station ≤ 32 →
      (sequenceSeed station).toNat = 257 * station ∧ sequenceSeed station ≠ 0)
  ∧ (∀ (w : WorkingCopy) (x : Word), w.InRange →
      w.tann * 10 ≤ reloadOf w x + 8 ∧ reloadOf w x ≤ w.tann * 10 + 7)

/-- The announce timer's expiry in RUNNING builds an ANNOUNCE from the values the blocks hold and puts it in hand with
attempt count 0: every field of a post, and of a meter its role, its alone flag and its feeder load alone (4.3). The
expiry is taken when the timer stands at 0, and changes nothing otherwise, by assumption 3. -/
def Obligations.AnnounceIsBuiltFromCurrentValues : Prop :=
  ∀ (s : State) (byte : Nat → Byte) (word : Nat → Word),
    (∀ n, byte n = BitVec.ofNat 8 (min n 255)) → (∀ n, word n = BitVec.ofNat 16 (min n 65535)) →
    ((s.link.announceTimer ≠ some 0 ∨ s.link.station ≠ .running) → exec .announceTimerExpiry s = .next s)
    ∧ (∀ w : WorkingCopy, s.store.working = some w → s.link.station = .running → s.link.announceTimer = some 0 →
      ∃ t f, exec .announceTimerExpiry s = .next t
        ∧ t.link = { s.link with announceTimer := none, announceHand := some { frame := f, attempts := 0 } }
        ∧ f.station = byte w.station
        ∧ (w.role = .post →
            f.role = 1
            ∧ (∀ i, f.flags.getLsbD i = ([decide (s.vehicle.pilot ≠ .none), decide (s.tracker.readiness = .halted),
                s.peers.alone, s.share.shedHold, s.reserve.shortUp || s.reserve.shortDown] : List Bool).getD i false)
            ∧ (s.tracker.readiness, f.readiness) ∈
              [(Readiness.vacant, (0 : Byte)), (.linking, 1), (.unplanned, 2), (.charging, 3), (.atRisk, 4),
               (.topped, 5), (.conditioning, 6), (.due, 7), (.halted, 8)]
            ∧ f.urgency = byte s.tracker.urgency
            ∧ f.claim = word s.tracker.claim ∧ f.held = word s.share.held
            ∧ f.draw = BitVec.ofInt 16 (max (-32768) (min 32767 s.composer.draw))
            ∧ f.offerUp = word s.reserve.offerUp ∧ f.offerDown = word s.reserve.offerDown
            ∧ f.dischargeOffer = word s.account.offer ∧ f.lendable = word s.account.lendable
            ∧ f.feederLoad = 0)
        ∧ (w.role = .meter →
            f = { station := byte w.station, role := 2, flags := if s.peers.alone then 4 else 0, readiness := 0
                  urgency := 0, claim := 0, held := 0, draw := 0, offerUp := 0, offerDown := 0, dischargeOffer := 0
                  lendable := 0, feederLoad := word (s.composer.feederSample.elim 0 Int.toNat) })
        ∧ unchangedExcept [.link] s t)

/-- A frame in hand is sent once the line has been idle for 40 µs, and for the station number times 100 µs more after
a first attempt; a ready SHED goes before a ready ANNOUNCE, and each transmission counts an attempt and stops what the
receiver delivers. Nothing is sent during a transmission, and outside RUNNING the idle time alone is sensed (4.1, 4.4,
4.5). That the command brings the idle time the transmitter senses, the time the line still lacks passing in quiet and a
shorter one telling of activity that has ended since, is assumption 26; that a start as the line becomes idle leaves the
reception that ended at this very instant to be decided is assumption 27. -/
def Obligations.ReadyFrameIsTransmitted : Prop :=
  ∀ (s u : State) (micros : Nat) (receiver : Receiver) (required : Nat → Nat),
    u = (if s.link.idleTime ≤ micros then s.elapse (micros - s.link.idleTime)
      else s.setLink { s.link with idleTime := micros }) →
    receiver = (if micros = 40 then .ending else .deaf 0) →
    (∀ attempts, required attempts = if attempts = 0 then 40 else 40 + s.stationNumber * 100) →
    (s.link.transmitting ≠ none → exec (.transmissionStart micros) s = .next s)
    ∧ (s.link.transmitting = none →
      u.link.idleTime = micros
      ∧ ∃ t, exec (.transmissionStart micros) s = .next t
        ∧ unchangedExcept [.link] u t
        ∧ (s.link.station ≠ .running → t = u)
        ∧ (s.link.station = .running →
          (∀ h, s.link.shedHand = some h → required h.attempts ≤ micros →
            t.link = { u.link with
              shedHand := some { h with attempts := h.attempts + 1 }, transmitting := some .shed
              idleTime := 0, receiver := receiver, tx := shedFrame h.frame })
          ∧ ((∀ h, s.link.shedHand = some h → micros < required h.attempts) →
            (∀ h, s.link.announceHand = some h → required h.attempts ≤ micros →
              t.link = { u.link with
                announceHand := some { h with attempts := h.attempts + 1 }, transmitting := some .announce
                idleTime := 0, receiver := receiver, tx := announceFrame h.frame })
            ∧ ((∀ h, s.link.announceHand = some h → micros < required h.attempts) → t = u))))

/-- A collision of the own ANNOUNCE is counted, and what follows it on the line is not received until the line is next
idle; below four attempts the frame stays in hand as built, and after the fourth it is dropped, counted, and followed by
all that follows a completion: the timer loaded and the allocation taken (4.4, 4.5). -/
def Obligations.CollidedAnnounceIsKeptOrDropped : Prop :=
  ∀ (s : State) (w : WorkingCopy) (h : AnnounceInHand),
    s.store.working = some w → s.link.transmitting = some .announce → s.link.announceHand = some h →
    ∃ t, exec .collision s = .next t
      ∧ (h.attempts < 4 →
          t.link = { s.link with
            transmitting := none, idleTime := 0, receiver := .deaf 0
            collisions := if s.link.collisions < 65535 then s.link.collisions + 1 else s.link.collisions }
          ∧ unchangedExcept [.link] s t)
      ∧ (4 ≤ h.attempts →
          ∃ u, exec .transmissionComplete s = .next u
            ∧ t.link = { u.link with
                collisions := if s.link.collisions < 65535 then s.link.collisions + 1 else s.link.collisions
                dropped := if s.link.dropped < 65535 then s.link.dropped + 1 else s.link.dropped }
            ∧ u.link.transmitting = none ∧ u.link.idleTime = 0 ∧ u.link.receiver = .deaf 0
            ∧ unchangedExcept [.link] u t)

/-- A SHED that is transmitted leaves the hand when complete, stays for another attempt after a collision below the
fourth, and is dropped and counted after the fourth; a SHED that waits behind it takes its place with attempt count 0
whichever way it ends. The idle time starts anew at each end, and no allocation follows (4.4, 4.5). -/
def Obligations.ShedTransmissionsEnd : Prop :=
  ∀ (s : State) (h : ShedInHand), s.store.working.isSome = true → s.link.transmitting = some .shed →
    s.link.shedHand = some h →
    (∃ t, exec .transmissionComplete s = .next t
      ∧ t.link = { s.link with
          transmitting := none, idleTime := 0, receiver := .deaf 0, shedBehind := none
          shedHand := s.link.shedBehind.map fun f => { frame := f, attempts := 0 } }
      ∧ unchangedExcept [.link] s t)
    ∧ (∃ t n, exec .collision s = .next t
      ∧ n = (if s.link.collisions < 65535 then s.link.collisions + 1 else s.link.collisions)
      ∧ (∀ f, s.link.shedBehind = some f →
          t.link = { s.link with
            transmitting := none, idleTime := 0, receiver := .deaf 0, collisions := n, shedBehind := none
            shedHand := some { frame := f, attempts := 0 } })
      ∧ (s.link.shedBehind = none → h.attempts < 4 →
          t.link = { s.link with transmitting := none, idleTime := 0, receiver := .deaf 0, collisions := n })
      ∧ (s.link.shedBehind = none → 4 ≤ h.attempts →
          t.link = { s.link with
            transmitting := none, idleTime := 0, receiver := .deaf 0, collisions := n, shedHand := none
            dropped := if s.link.dropped < 65535 then s.link.dropped + 1 else s.link.dropped })
      ∧ unchangedExcept [.link] s t)

/-! ## Allocations -/

/-- The completion of a post's own ANNOUNCE, with other stations heard: the frame leaves the hand, the announce timer is
loaded, and an allocation sets the budget record, A from the tiers within a shed cap, tenure and H, and Q from the site
overdraw (4.4, 6.2 to 6.8). The sums it takes are over the own values, as the blocks hold them in the POST role and all
0 in the METER role, and each POST entry as stored; a METER entry adds nothing (5.5). The governing meter is the METER
entry with the lowest number, the first of the table. -/
def Obligations.CompletedAnnounceAllocates : Prop :=
  (∀ (s : State) (own : Contribution) (posts : List Peer),
    own = (if s.store.working.any (fun w => w.role == .post) then
        { urgency := s.tracker.urgency, claim := s.tracker.claim, held := s.share.held, draw := s.composer.draw
          offerUp := s.reserve.offerUp, offerDown := s.reserve.offerDown, dischargeOffer := s.account.offer }
      else
        { urgency := 0, claim := 0, held := 0, draw := 0, offerUp := 0, offerDown := 0, dischargeOffer := 0 }) →
    posts = s.peers.entries.filter (fun p => p.role == .post) →
    s.ownContribution = own
    ∧ s.contributions = own :: posts.map (fun p =>
        { urgency := p.urgency, claim := p.claim, held := p.held, draw := p.draw
          offerUp := p.offerUp, offerDown := p.offerDown, dischargeOffer := p.dischargeOffer })
    ∧ totalDraw s.contributions = own.draw + (posts.map Peer.draw).sum
    ∧ positiveDraw s.contributions = own.draw.toNat + (posts.map fun p => p.draw.toNat).sum
    ∧ totalOfferUp s.contributions = own.offerUp + (posts.map Peer.offerUp).sum
    ∧ totalOfferDown s.contributions = own.offerDown + (posts.map Peer.offerDown).sum
    ∧ totalDischarge s.contributions = own.dischargeOffer + (posts.map Peer.dischargeOffer).sum)
  ∧ ∀ (s : State) (w : WorkingCopy) (x : Word) (meter : Option Peer) (siteLoad : Nat) (headroom : Int) (b : Budget)
    (allowance interval : Nat) (contested : Bool),
    s.store.working = some w → w.role = .post → s.link.station = .running →
    s.link.transmitting = some .announce → s.link.sequence = some x → s.peers.alone = false →
    meter = s.peers.entries.find? (fun p => p.role == .meter) →
    siteLoad = (match meter with
      | some m => ((m.feederLoad : Int) - totalDraw s.contributions).toNat
      | none => w.site) →
    headroom = (w.fcap : Int) - siteLoad - ((w.fcap * w.guard / 1000 : Nat) : Int) →
    b = { guard := w.fcap * w.guard / 1000, meter := meter.map Peer.station, feederLoad := meter.map Peer.feederLoad
          totalDraw := totalDraw s.contributions, siteLoad := siteLoad, headroom := headroom
          budget := (headroom - w.upcommit).toNat, overdraw := (-headroom).toNat } →
    allowance = (if s.share.shedHold then
        min (allowanceOf (serveTiers s.contributions tierOrder b.budget) s.ownContribution) s.share.shedCap
      else allowanceOf (serveTiers s.contributions tierOrder b.budget) s.ownContribution) →
    contested = contestedOf (serveTiers s.contributions tierOrder b.budget) →
    interval = (s.clock - s.share.lastAllocation.getD s.clock) / 1000 →
    ∃ t, exec .transmissionComplete s = .next t
      ∧ t.link = { s.link with
          transmitting := none, idleTime := 0, receiver := .deaf 0, announceHand := none
          sequence := some (sequenceLoad x)
          announceTimer := some ((w.tann * 10 - 8 + (sequenceLoad x).toNat % 16) * 1000) }
      ∧ t.share = { s.share with
          budget := some b, allowance := allowance, contested := contested, interval := interval
          lastAllocation := some s.clock, discharge := t.share.discharge, held := t.share.held
          tenure := t.share.tenure, tenureLeft := t.share.tenureLeft }
      ∧ t.share.discharge =
          (if 0 < b.overdraw ∧ 0 < s.account.offer then
            min s.account.offer
              ((b.overdraw * s.account.offer + totalDischarge s.contributions - 1) / totalDischarge s.contributions)
          else 0)
      ∧ (s.share.tenure = false → 0 < w.tenure → s.share.allowance < allowance →
          t.share.tenure = true ∧ t.share.held = allowance ∧ t.share.tenureLeft = (w.tenure : Int) * 1000)
      ∧ (s.share.tenure = false → (w.tenure = 0 ∨ allowance ≤ s.share.allowance) → s.share.held = 0 →
          t.share.tenure = false ∧ t.share.held = 0)
      ∧ (∀ left, s.share.tenure = true →
          left = (if contested then s.share.tenureLeft - interval else s.share.tenureLeft) →
          (left ≤ 0 → t.share.tenure = false ∧ t.share.held = 0)
          ∧ (0 < left → t.share.held = min s.share.held allowance
              ∧ (0 < min s.share.held allowance → t.share.tenure = true ∧ t.share.tenureLeft = left)
              ∧ (min s.share.held allowance = 0 → t.share.tenure = false)))
      ∧ unchangedExcept [.link, .share, .reserve, .service] s t

/-- An allocation taken while ALONE holds gives the island allowance within a shed cap, with no tenure and not
contested, its budget from SITE; Q is taken from the post's own offer. A meter's allocation leaves its share engine as
it is (6.2, 6.5, 6.8). -/
def Obligations.AloneAllocationIsTheIsland : Prop :=
  ∀ (s : State) (w : WorkingCopy), s.store.working = some w → s.link.station = .running →
    s.link.transmitting = some .announce →
    (∀ island : Nat, w.role = .post → s.peers.alone = true → s.peers.entries = [] →
      island = min s.tracker.claim
        ((((w.fcap : Int) - w.site - ((w.fcap * w.guard / 1000 : Nat) : Int) - w.upcommit) / (w.isldiv : Int)).toNat) →
      ∃ t, exec .transmissionComplete s = .next t
        ∧ t.share = { s.share with
            allowance := if s.share.shedHold then min island s.share.shedCap else island
            held := 0, tenure := false, tenureLeft := 0, contested := false
            interval := (s.clock - s.share.lastAllocation.getD s.clock) / 1000, lastAllocation := some s.clock
            budget := t.share.budget, discharge := t.share.discharge }
        ∧ (∃ b, t.share.budget = some b ∧ b.meter = none ∧ b.feederLoad = none ∧ b.siteLoad = w.site
            ∧ b.guard = w.fcap * w.guard / 1000 ∧ b.totalDraw = totalDraw s.contributions
            ∧ b.headroom = (w.fcap : Int) - w.site - ((w.fcap * w.guard / 1000 : Nat) : Int)
            ∧ (0 ≤ b.headroom → t.share.discharge = 0)
            ∧ (b.headroom < 0 → t.share.discharge = min s.account.offer b.overdraw)
            ∧ (b.overdraw : Int) = max 0 (-b.headroom) ∧ (b.budget : Int) = max 0 (b.headroom - w.upcommit))
        ∧ unchangedExcept [.link, .share, .reserve, .service] s t)
    ∧ (w.role = .meter →
      ∃ t, exec .transmissionComplete s = .next t ∧ t.share = s.share
        ∧ t.reserve = { s.reserve with
            upShare := 0, downShare := 0, shortUp := false, shortDown := false, response := 0 }
        ∧ unchangedExcept [.link, .reserve] s t)

/-- At an allocation a post in RUNNING with a reserve duty takes its part of each commitment by the table of 7.6, the
up share 0 while shed-hold runs, and RESERVE_SHORT is raised by a shortfall flag that was clear. In DISABLED and
MAINS_LOST it leaves both shares and the response 0 and both flags clear, and raises nothing (7.6). -/
def Obligations.AllocationDividesTheCommitments : Prop :=
  (∀ (s : State) (w : WorkingCopy), s.store.working = some w → w.role = .post → s.link.station = .running →
    s.link.transmitting = some .announce → (s.reserve.state = .disabled ∨ s.reserve.state = .mainsLost) →
    ∃ t, exec .transmissionComplete s = .next t
      ∧ t.reserve = { s.reserve with
          upShare := 0, downShare := 0, shortUp := false, shortDown := false, response := 0 }
      ∧ unchangedExcept [.link, .share, .reserve] s t)
  ∧ ∀ (s : State) (w : WorkingCopy) (up down : Nat) (shortUp shortDown : Bool),
    s.store.working = some w → w.role = .post → s.link.station = .running →
    s.link.transmitting = some .announce → (s.reserve.state = .starting ∨ s.reserve.state = .measuring) →
    (up, shortUp) = (if w.upcommit = 0 then (0, false)
      else if s.peers.alone then
        (min s.reserve.offerUp (w.upcommit / w.isldiv), decide (s.reserve.offerUp ≤ w.upcommit / w.isldiv))
      else if totalOfferUp s.contributions ≤ w.upcommit then (s.reserve.offerUp, true)
      else (w.upcommit * s.reserve.offerUp / totalOfferUp s.contributions, false)) →
    (down, shortDown) = (if w.dncommit = 0 then (0, false)
      else if s.peers.alone then
        (min s.reserve.offerDown (w.dncommit / w.isldiv), decide (s.reserve.offerDown ≤ w.dncommit / w.isldiv))
      else if totalOfferDown s.contributions ≤ w.dncommit then (s.reserve.offerDown, true)
      else (w.dncommit * s.reserve.offerDown / totalOfferDown s.contributions, false)) →
    ∃ t, exec .transmissionComplete s = .next t
      ∧ t.reserve = { s.reserve with
          upShare := if s.share.shedHold then 0 else up, downShare := down
          shortUp := shortUp, shortDown := shortDown, response := t.reserve.response }
      ∧ t.reserve.response = max (-(down : Int)) (min (t.reserve.upShare : Int) s.reserve.response)
      ∧ t.service =
          (if (shortUp = true ∧ s.reserve.shortUp = false) ∨ (shortDown = true ∧ s.reserve.shortDown = false) then
            { s.service with pendingCauses := s.service.pendingCauses ||| 32#12 }
          else s.service)
      ∧ unchangedExcept [.link, .share, .reserve, .service] s t

/-! ## Receptions -/

/-- A reception that the receiver delivers is checked in the order of 4.5: a short frame or a bad CRC is counted as a
CRC error, a kind, length, station number, role or shed fraction out of order as malformed, and a valid ANNOUNCE or SHED
is taken as ANNOUNCE_RECEIVED and SHED_RECEIVED take it. After an own transmission and after a reset the receiver
delivers only what begins once the line has been idle again; the end of anything else is neither checked nor counted.
The line is idle as a reception ends, unless the station drives it (4.1, 4.4, 4.5, 4.8). That the command says whether a
reception began so, and that the time it needs at least passes first at a receiver that is deaf, is assumption 27. -/
def Obligations.ReceptionIsChecked : Prop :=
  ∀ (s u : State) (fresh : Bool) (characters : List Byte) (wait : Nat), s.link.receiveBuffer = [] →
    wait = (match s.link.receiver with
      | .deaf quiet =>
        if s.link.transmitting ≠ none then 0
        else if fresh = false then 40 - quiet
        else if characters = [] then 80 - quiet
        else 128 + 40 * characters.length - quiet
      | .hearing => 0
      | .ending => 0) →
    u = (s.elapse wait).setLink
      (if s.link.receiver = .ending then { s.link with receiver := .deaf 0 }
      else if s.link.transmitting = none then { (s.elapse wait).link with idleTime := 40, receiver := .hearing }
      else s.link) →
    receptionEnds fresh characters.length s = u
    ∧ (s.link.hears fresh = true ↔
        s.link.receiver = .hearing ∨ (fresh = true ∧ (s.link.receiver = .ending ∨ s.link.transmitting = none)))
    ∧ (s.link.hears fresh = false → exec (.receptionEnd ⟨fresh, characters⟩) s = .next u)
    ∧ (s.link.hears fresh = true →
      ((characters.length < 3 ∨ characters.drop (characters.length - 2)
          ≠ bytesOfWord (crc16 (characters.take (characters.length - 2)))) →
        ∃ t, exec (.receptionEnd ⟨fresh, characters⟩) s = .next t
          ∧ t.link = { u.link with
              crcErrors := if s.link.crcErrors < 65535 then s.link.crcErrors + 1 else s.link.crcErrors }
          ∧ unchangedExcept [.link] u t)
      ∧ (((∃ kind payload, characters = kind :: payload ++ bytesOfWord (crc16 (kind :: payload))
            ∧ (kind ≠ 1 ∨ payload.length ≠ 21) ∧ (kind ≠ 2 ∨ payload.length ≠ 3))
          ∨ (∃ f : WireAnnounce, characters = announceFrame f
            ∧ (f.station = 0 ∨ 32 < f.station.toNat ∨ (f.role ≠ 1 ∧ f.role ≠ 2)))
          ∨ (∃ f : WireShed, characters = shedFrame f
            ∧ (f.station = 0 ∨ 32 < f.station.toNat ∨ f.fraction = 0 ∨ 1024 < f.fraction.toNat))) →
        ∃ t, exec (.receptionEnd ⟨fresh, characters⟩) s = .next t
          ∧ t.link = { u.link with
              malformed := if s.link.malformed < 65535 then s.link.malformed + 1 else s.link.malformed }
          ∧ unchangedExcept [.link] u t))
    ∧ (∀ f : WireAnnounce, characters = announceFrame f →
        exec (.receptionEnd ⟨fresh, characters⟩) s = exec (.announceReceived ⟨fresh, f⟩) s)
    ∧ (∀ f : WireShed, characters = shedFrame f →
        exec (.receptionEnd ⟨fresh, characters⟩) s = exec (.shedReceived ⟨fresh, f⟩) s)

/-- An ANNOUNCE with a station number or role out of range is counted as malformed. A valid one is counted as good; from
another station it is stored in LISTENING, RUNNING and CLASH, its held brought within its claim, its age 0 and every
other entry kept, and ALONE ends; in LOADING and UNCONFIGURED it is discarded (4.5, 5.1, 5.4; that ANNOUNCE_RECEIVED
counts a malformed one is assumption 17, that the undefined flag bits are stored as 0 assumption 30, and which frame the
receiver delivers after an own transmission or a reset, and when, assumption 27). -/
def Obligations.AnnounceIsStored : Prop :=
  ∀ (s u : State) (fresh : Bool) (f : WireAnnounce), u = receptionEnds fresh (announceFrame f).length s →
    s.link.hears fresh = true →
    ((f.station = 0 ∨ 32 < f.station.toNat ∨ (f.role ≠ 1 ∧ f.role ≠ 2)) →
      ∃ t, exec (.announceReceived ⟨fresh, f⟩) s = .next t
        ∧ t.link = { u.link with
            malformed := if s.link.malformed < 65535 then s.link.malformed + 1 else s.link.malformed }
        ∧ unchangedExcept [.link] u t)
    ∧ (1 ≤ f.station.toNat → f.station.toNat ≤ 32 → (f.role = 1 ∨ f.role = 2) →
      ((s.link.station = .loading ∨ s.link.station = .unconfigured) →
        ∃ t, exec (.announceReceived ⟨fresh, f⟩) s = .next t
          ∧ t.link = { u.link with
              goodFrames := if s.link.goodFrames < 65535 then s.link.goodFrames + 1 else s.link.goodFrames }
          ∧ unchangedExcept [.link] u t)
      ∧ ((s.link.station = .listening ∨ s.link.station = .running ∨ s.link.station = .clash) →
          s.stationNumber ≠ f.station.toNat → u.peers.entries.Pairwise (fun p q => p.station < q.station) →
        ∃ t, exec (.announceReceived ⟨fresh, f⟩) s = .next t
          ∧ t.link = { u.link with
              goodFrames := if s.link.goodFrames < 65535 then s.link.goodFrames + 1 else s.link.goodFrames }
          ∧ t.peers.alone = false
          ∧ t.peers.entries.Pairwise (fun p q => p.station < q.station)
          ∧ (∀ p, p ∈ t.peers.entries ↔
              (p ∈ u.peers.entries ∧ p.station ≠ f.station.toNat)
              ∨ p = { station := f.station.toNat, role := if f.role = 1 then .post else .meter
                      flags := f.flags &&& 0x1F, readiness := f.readiness.toNat, urgency := f.urgency.toNat
                      claim := f.claim.toNat, held := min f.held.toNat f.claim.toNat, draw := f.draw.toInt
                      offerUp := f.offerUp.toNat, offerDown := f.offerDown.toNat
                      dischargeOffer := f.dischargeOffer.toNat, lendable := f.lendable.toNat
                      feederLoad := f.feederLoad.toNat, age := 0 })
          ∧ unchangedExcept [.link, .peers] u t))

/-- A valid frame with the own number is a clash in LISTENING and RUNNING: CLASH entered, both timers stopped, every
frame in hand discarded without a drop counted, an own transmission stopped, ALONE ended, A, H, Q, offers, shares and
response 0, the frame neither stored nor handed on, and CLASH raised. In CLASH it is counted alone (4.5, 5.4, 6.9,
7.7; which frame the receiver delivers after an own transmission or a reset, and when, is assumption 27). -/
def Obligations.OwnNumberIsAClash : Prop :=
  ∀ (s u : State) (w : WorkingCopy) (c : Instr) (fresh : Bool),
    s.store.working = some w → 1 ≤ w.station → w.station ≤ 32 → s.link.hears fresh = true →
    ((∃ f : WireAnnounce, c = .announceReceived ⟨fresh, f⟩ ∧ f.station.toNat = w.station ∧ (f.role = 1 ∨ f.role = 2)
        ∧ u = receptionEnds fresh (announceFrame f).length s)
      ∨ (∃ f : WireShed, c = .shedReceived ⟨fresh, f⟩ ∧ f.station.toNat = w.station
          ∧ 1 ≤ f.fraction.toNat ∧ f.fraction.toNat ≤ 1024
          ∧ u = receptionEnds fresh (shedFrame f).length s)) →
    ∃ t n, exec c s = .next t
      ∧ n = (if s.link.goodFrames < 65535 then s.link.goodFrames + 1 else s.link.goodFrames)
      ∧ ((s.link.station = .listening ∨ s.link.station = .running) →
          t.link = { u.link with
            station := .clash, listenTimer := none, announceTimer := none, announceHand := none
            shedHand := none, shedBehind := none, transmitting := none, goodFrames := n
            idleTime := if s.link.transmitting = none then u.link.idleTime else 0
            receiver := if s.link.transmitting = none then u.link.receiver else .deaf 0 }
          ∧ t.peers = { u.peers with alone := false }
          ∧ t.share = { u.share with
              allowance := 0, held := 0, discharge := 0, tenure := false, tenureLeft := 0, budget := none
              contested := false, overloadCount := 0, shedding := false }
          ∧ t.reserve = { u.reserve with
              response := 0, upShare := 0, downShare := 0, shortUp := false, shortDown := false, offerUp := 0
              offerDown := 0 }
          ∧ t.service = { s.service with pendingCauses := s.service.pendingCauses ||| 4#12 }
          ∧ unchangedExcept [.link, .peers, .share, .reserve, .service] u t)
      ∧ (s.link.station = .clash → t.link = { u.link with goodFrames := n } ∧ unchangedExcept [.link] u t)

/-- A SHED with a station number of 0 or above 32, or a fraction of 0 or above 1024, is counted as malformed. A valid
one from another station is counted as good. In RUNNING a post then cuts A to floor(A x (1024 - f) / 1024), H and the
ramp with it, takes the new A as cap, starts shed-hold and gives up its up share; in LISTENING a post starts shed-hold
with cap 0; a meter changes nothing; each raises SHED_HEARD. In LOADING, UNCONFIGURED and CLASH it is discarded (4.5,
6.11, 7.6, 8.4; that SHED_RECEIVED counts a malformed one is assumption 17, and which frame the receiver delivers after
an own transmission or a reset, and when, assumption 27). -/
def Obligations.ShedCutsTheAllowance : Prop :=
  ∀ (s u : State) (fresh : Bool) (f : WireShed) (n : Nat), u = receptionEnds fresh (shedFrame f).length s →
    s.link.hears fresh = true →
    n = (if s.link.goodFrames < 65535 then s.link.goodFrames + 1 else s.link.goodFrames) →
    ((f.station = 0 ∨ 32 < f.station.toNat ∨ f.fraction = 0 ∨ 1024 < f.fraction.toNat) →
      ∃ t, exec (.shedReceived ⟨fresh, f⟩) s = .next t
        ∧ t.link = { u.link with
            malformed := if s.link.malformed < 65535 then s.link.malformed + 1 else s.link.malformed }
        ∧ unchangedExcept [.link] u t)
    ∧ (1 ≤ f.station.toNat → f.station.toNat ≤ 32 → 1 ≤ f.fraction.toNat → f.fraction.toNat ≤ 1024 →
      ((s.link.station = .loading ∨ s.link.station = .unconfigured ∨ s.link.station = .clash) →
        ∃ t, exec (.shedReceived ⟨fresh, f⟩) s = .next t
          ∧ t.link = { u.link with goodFrames := n } ∧ unchangedExcept [.link] u t)
      ∧ (∀ (w : WorkingCopy) (cut : Nat), s.store.working = some w → f.station.toNat ≠ w.station →
        (s.link.station = .listening ∨ s.link.station = .running) →
        cut = s.share.allowance * (1024 - f.fraction.toNat) / 1024 →
        ∃ t, exec (.shedReceived ⟨fresh, f⟩) s = .next t
          ∧ t.link = { u.link with goodFrames := n }
          ∧ t.service = { s.service with pendingCauses := s.service.pendingCauses ||| 128#12 }
          ∧ (w.role = .post → s.link.station = .running →
              t.share.allowance = cut ∧ t.share.held = min s.share.held cut ∧ t.share.shedCap = cut
              ∧ t.share.shedHold = true ∧ t.share.shedTimer = some (w.shedhold * 1000 * 1000)
              ∧ t.share.discharge = s.share.discharge
              ∧ (0 < min s.share.held cut →
                  t.share.tenure = s.share.tenure ∧ t.share.tenureLeft = s.share.tenureLeft)
              ∧ (min s.share.held cut = 0 → t.share.tenure = false)
              ∧ t.share = { u.share with
                  allowance := cut, held := min s.share.held cut, shedCap := cut, shedHold := true
                  shedTimer := t.share.shedTimer, tenure := t.share.tenure, tenureLeft := t.share.tenureLeft }
              ∧ t.composer = { u.composer with ramped := min s.composer.ramped cut })
          ∧ (w.role = .post → s.link.station = .listening →
              t.share = { u.share with shedCap := 0, shedHold := true, shedTimer := some (w.shedhold * 1000 * 1000) }
              ∧ t.composer = u.composer)
          ∧ (w.role = .post →
              t.reserve = { u.reserve with
                upShare := 0
                response :=
                  if 0 < s.reserve.response then 0 else max (-(s.reserve.downShare : Int)) s.reserve.response })
          ∧ (w.role = .meter → t.share = u.share ∧ t.reserve = u.reserve ∧ t.composer = u.composer)
          ∧ unchangedExcept [.link, .share, .composer, .reserve, .service] u t))

/-- The removal of a peer entry whose age has reached T_sil keeps every other entry; one that leaves the table empty in
RUNNING enters ALONE, raised with ALONE_ENTERED, and lowers a post's A to the island allowance, each of its reserve
shares to its offer and to the island portion of the commitment, and its response to the shares. An ANNOUNCE taken first
makes the age 0, and the removal does not happen. The shed-hold timer's expiry ends shed-hold and leaves A as it is
(5.1, 5.4, 6.9, 6.11, 7.6). That an expiry whose age or timer has not run out changes nothing is assumption 3, and which
frame the receiver delivers after an own transmission or a reset assumption 27. -/
def Obligations.RemovalAndShedHoldEndAtTheirTimes : Prop :=
  ∀ s : State,
    (∀ (w : WorkingCopy) (p : Peer) (rest : List Peer) (island : Nat),
      island = min s.tracker.claim
        ((((w.fcap : Int) - w.site - ((w.fcap * w.guard / 1000 : Nat) : Int) - w.upcommit) / (w.isldiv : Int)).toNat) →
      s.store.working = some w →
      (s.link.station = .listening ∨ s.link.station = .running ∨ s.link.station = .clash) →
      s.peers.entries.find? (fun q => q.station == p.station) = some p →
      rest = s.peers.entries.filter (fun q => q.station ≠ p.station) →
      (p.age < w.ksil * (w.tann * 10) * 1000 → exec (.peerEntryExpiry p.station) s = .next s)
      ∧ (w.ksil * (w.tann * 10) * 1000 ≤ p.age →
        ∃ t, exec (.peerEntryExpiry p.station) s = .next t
          ∧ t.peers.entries = rest
          ∧ ((rest ≠ [] ∨ s.link.station ≠ .running) →
              t.peers.alone = s.peers.alone ∧ unchangedExcept [.peers] s t)
          ∧ (rest = [] → s.link.station = .running →
              t.peers.alone = true
              ∧ t.service = { s.service with pendingCauses := s.service.pendingCauses ||| 64#12 }
              ∧ (w.role = .post → t.share = { s.share with
                  tenure := false, held := 0, tenureLeft := 0
                  allowance := min s.share.allowance island }
                ∧ t.reserve = { s.reserve with
                    upShare := min s.reserve.upShare (min s.reserve.offerUp (w.upcommit / w.isldiv))
                    downShare := min s.reserve.downShare (min s.reserve.offerDown (w.dncommit / w.isldiv))
                    response := max (-(t.reserve.downShare : Int)) (min (t.reserve.upShare : Int) s.reserve.response) })
              ∧ (w.role = .meter → t.share = s.share ∧ t.reserve = s.reserve)
              ∧ unchangedExcept [.peers, .share, .reserve, .service] s t)))
    ∧ (∀ (w : WorkingCopy) (fresh : Bool) (f : WireAnnounce), s.store.working = some w → 0 < w.ksil * (w.tann * 10) →
      (s.link.station = .listening ∨ s.link.station = .running ∨ s.link.station = .clash) →
      s.link.hears fresh = true →
      1 ≤ f.station.toNat → f.station.toNat ≤ 32 → f.station.toNat ≠ w.station →
      (f.role = 1 ∨ f.role = 2) →
      ∃ t, exec (.announceReceived ⟨fresh, f⟩) s = .next t ∧ exec (.peerEntryExpiry f.station.toNat) t = .next t
        ∧ (t.peers.entries.find? (fun q => q.station == f.station.toNat)).any (fun q => q.age == 0) = true)
    ∧ (s.share.shedTimer ≠ some 0 → exec .shedHoldExpiry s = .next s)
    ∧ (s.share.shedTimer = some 0 →
      ∃ t, exec .shedHoldExpiry s = .next t
        ∧ t.share = { s.share with shedHold := false, shedTimer := none }
        ∧ unchangedExcept [.share] s t)

/-! ## Shares of the budget and of the commitments -/

/-- The tiers of one view share the budget. A post's held part stands in tier 2u + 1 and its unheld part in tier 2u, an
urgency above 3 taken as 3; from tier 7 down, a tier finds what the demands of the tiers above leave of B, grants its
parts whole when its demand fits and floor(part x left / demand) when it does not; a post's allowance is the grants to
its two parts, and the allocation is contested when some tier does not fit. So the eight demands sum to the claims, the
grants to all posts sum to at most B, no post is granted more than its claim, a budget that covers every claim grants
each whole and is not contested, and a post whose tiers lie below an exhausted budget is granted nothing (5.5, 6.4). -/
def Obligations.TiersShareTheBudget : Prop :=
  ∀ (cs : List Contribution) (budget : Nat) (demand left : Nat → Nat) (granted : Nat → Nat → Nat),
    (∀ c ∈ cs, c.held ≤ c.claim) →
    (∀ tier, demand tier = (cs.map fun c =>
      if tier = 2 * min c.urgency 3 + 1 then c.held
      else if tier = 2 * min c.urgency 3 then c.claim - c.held else 0).sum) →
    (∀ tier, left tier = budget - ((tierOrder.filter fun above => decide (tier < above)).map demand).sum) →
    (∀ tier part, granted tier part =
      if demand tier ≤ left tier then part else part * left tier / demand tier) →
    tierOrder = [7, 6, 5, 4, 3, 2, 1, 0]
    ∧ (∀ tier, tierDemand tier cs = demand tier)
    ∧ (∀ c ∈ cs, allowanceOf (serveTiers cs tierOrder budget) c =
        granted (2 * min c.urgency 3 + 1) c.held + granted (2 * min c.urgency 3) (c.claim - c.held))
    ∧ contestedOf (serveTiers cs tierOrder budget) = tierOrder.any (fun tier => decide (left tier < demand tier))
    ∧ (tierOrder.map fun tier => tierDemand tier cs).sum = (cs.map Contribution.claim).sum
    ∧ (cs.map (allowanceOf (serveTiers cs tierOrder budget))).sum ≤ budget
    ∧ (∀ c ∈ cs, allowanceOf (serveTiers cs tierOrder budget) c ≤ c.claim)
    ∧ ((cs.map Contribution.claim).sum ≤ budget →
        contestedOf (serveTiers cs tierOrder budget) = false
        ∧ ∀ c ∈ cs, allowanceOf (serveTiers cs tierOrder budget) c = c.claim)
    ∧ (∀ c ∈ cs, budget ≤ ((tierOrder.filter fun tier => decide (2 * min c.urgency 3 + 1 < tier)).map
          fun tier => tierDemand tier cs).sum →
        allowanceOf (serveTiers cs tierOrder budget) c = 0)

/-- The parts that posts of one view take: the overdraw discharge requests never exceed the offers, cover the overdraw
as far as the offers reach and exceed it by less than one unit for each post that offers; the shares of a commitment
never exceed the offers and sum to at most the commitment (6.8, 7.6). -/
def Obligations.DischargesAndReserveSharesAddUp : Prop :=
  ∀ (offers : List Nat) (total : Nat), total = offers.sum →
    (∀ overdraw : Nat,
      (∀ own, dischargeOf overdraw own total =
        if 0 < overdraw ∧ 0 < own then min own ((overdraw * own + total - 1) / total) else 0)
      ∧ (∀ o ∈ offers, dischargeOf overdraw o total ≤ o)
      ∧ min overdraw total ≤ (offers.map fun o => dischargeOf overdraw o total).sum
      ∧ (0 < overdraw → 0 < total →
          (offers.map fun o => dischargeOf overdraw o total).sum < overdraw + (offers.filter (0 < ·)).length))
    ∧ (∀ (commitment isldiv : Nat) (alone : Bool),
      (∀ own, shareOf commitment isldiv alone own total =
        if commitment = 0 then (0, false)
        else if alone then (min own (commitment / isldiv), decide (own ≤ commitment / isldiv))
        else if total ≤ commitment then (own, true)
        else (commitment * own / total, false))
      ∧ (∀ o ∈ offers, (shareOf commitment isldiv alone o total).1 ≤ o)
      ∧ (offers.map fun o => (shareOf commitment isldiv false o total).1).sum ≤ commitment
      ∧ (∀ o ∈ offers, (shareOf commitment isldiv true o total).1 ≤ commitment / isldiv)
      ∧ (∀ o ∈ offers, (shareOf commitment isldiv false o total).2 = decide (0 < commitment ∧ total ≤ commitment)))

/-! ## The mains frequency -/

/-- Rising edges are ignored in LOADING and UNCONFIGURED. Elsewhere the first starts a measurement, each next one
counts and sums its time, and each restarts the edge timeout; in DISABLED a completed measurement stores the frequency
and its mark alone, and starts the next. An edge comes at its time on the part's one timebase, the time until then
passing first (7.2, 7.3, and R2 of the conventions; that the edge carries that time, and one whose time is past comes
now, is assumption 15). -/
def Obligations.EdgesGatherAMeasurement : Prop :=
  ∀ (s u : State) (time edge : Nat), u = s.elapse (time - s.clock) → edge = max s.clock time →
    u.clock = edge
    ∧ ((s.link.station = .loading ∨ s.link.station = .unconfigured) → exec (.mainsEdge time) s = .next u)
    ∧ (∀ (w : WorkingCopy) (cycles : Nat), s.store.working = some w → cycles = (if w.nomf = 50 then 5 else 6) →
      (s.link.station = .listening ∨ s.link.station = .running ∨ s.link.station = .clash) →
      (s.reserve.measurement = none →
        ∃ t, exec (.mainsEdge time) s = .next t
          ∧ t.reserve = { s.reserve with
              measurement := some { start := edge, edges := 0, periodSum := 0 }, edgeTimeout := some 50000 }
          ∧ unchangedExcept [.reserve] u t)
      ∧ (∀ m, s.reserve.measurement = some m → m.edges + 1 < cycles →
        ∃ t, exec (.mainsEdge time) s = .next t
          ∧ t.reserve = { s.reserve with
              measurement := some { start := m.start, edges := m.edges + 1, periodSum := edge - m.start }
              edgeTimeout := some 50000 }
          ∧ unchangedExcept [.reserve] u t)
      ∧ (∀ m sum f, s.reserve.measurement = some m → m.edges + 1 = cycles → s.reserve.state = .disabled →
        sum = edge - m.start → 0 < sum → f = (2 * cycles * 1000000000 + sum) / (2 * sum) →
        ∃ t, exec (.mainsEdge time) s = .next t
          ∧ t.reserve = { s.reserve with
              measurement := some { start := edge, edges := 0, periodSum := 0 }, edgeTimeout := some 50000
              lastFrequency := some f
              plausible := decide (w.nomf * 1000 ≤ f + 5000 ∧ f ≤ w.nomf * 1000 + 5000) }
          ∧ unchangedExcept [.reserve] u t))

/-- A completed plausible measurement joins the history of three and clears the implausible count; at the third in
STARTING or in the recovery from MAINS_LOST, and at each in MEASURING, the active deviation is the least extreme of
three beyond the deadband on one side, the droop fraction rises with it to 1024, and a post in RUNNING responds with
that fraction of its share (7.2 to 7.4, 7.7; that the recovery count then stays 3 is the model's choice, assumption
22, and that the edge carries its time assumption 15). -/
def Obligations.PlausibleMeasurementsDriveTheResponse : Prop :=
  ∀ (s : State) (w : WorkingCopy) (m : Measurement) (time edge cycles sum f : Nat) (d : Int) (history : List Int)
    (full : Prop),
    s.store.working = some w → w.InRange →
    (s.link.station = .listening ∨ s.link.station = .running ∨ s.link.station = .clash) →
    s.reserve.state ≠ .disabled → cycles = (if w.nomf = 50 then 5 else 6) →
    s.reserve.measurement = some m → m.edges + 1 = cycles → edge = max s.clock time → sum = edge - m.start → 0 < sum →
    f = (2 * cycles * 1000000000 + sum) / (2 * sum) →
    w.nomf * 1000 ≤ f + 5000 → f ≤ w.nomf * 1000 + 5000 → d = (f : Int) - ((w.nomf * 1000 : Nat) : Int) →
    history = (s.reserve.history ++ [d]).drop (s.reserve.history.length - 2) →
    (full ↔ s.reserve.state = .measuring ∨ (s.reserve.state = .starting ∧ 3 ≤ history.length)
      ∨ (s.reserve.state = .mainsLost ∧ 2 ≤ s.reserve.recoveryCount)) →
    ∃ t, exec (.mainsEdge time) s = .next t
      ∧ t.reserve.measurement = some { start := edge, edges := 0, periodSum := 0 }
      ∧ t.reserve.edgeTimeout = some 50000 ∧ t.reserve.lastFrequency = some f ∧ t.reserve.plausible = true
      ∧ t.reserve.implausibleCount = 0 ∧ t.reserve.history = history
      ∧ (s.reserve.state = .mainsLost →
          t.reserve.recoveryCount = if 2 ≤ s.reserve.recoveryCount then 3 else s.reserve.recoveryCount + 1)
      ∧ (s.reserve.state ≠ .mainsLost → t.reserve.recoveryCount = s.reserve.recoveryCount)
      ∧ (¬full → t.reserve.state = s.reserve.state ∧ t.reserve.active = s.reserve.active
          ∧ t.reserve.droop = s.reserve.droop ∧ t.reserve.response = s.reserve.response)
      ∧ (full → t.reserve.state = .measuring
          ∧ (∀ a b c, history = [a, b, c] →
              (((w.db : Int) < a ∧ (w.db : Int) < b ∧ (w.db : Int) < c) → t.reserve.active = min a (min b c))
              ∧ ((a < -(w.db : Int) ∧ b < -(w.db : Int) ∧ c < -(w.db : Int)) → t.reserve.active = max a (max b c))
              ∧ (¬((w.db : Int) < a ∧ (w.db : Int) < b ∧ (w.db : Int) < c) →
                  ¬(a < -(w.db : Int) ∧ b < -(w.db : Int) ∧ c < -(w.db : Int)) → t.reserve.active = 0))
          ∧ (t.reserve.active.natAbs ≤ w.db → t.reserve.droop = 0)
          ∧ (w.db < t.reserve.active.natAbs →
              t.reserve.droop = min 1024 ((t.reserve.active.natAbs - w.db) * 1024 / (w.full - w.db)))
          ∧ (w.role = .post → s.link.station = .running →
              (t.reserve.active < 0 →
                t.reserve.response = -((s.reserve.downShare * t.reserve.droop / 1024 : Nat) : Int))
              ∧ (0 < t.reserve.active → t.reserve.response = ((s.reserve.upShare * t.reserve.droop / 1024 : Nat) : Int))
              ∧ (t.reserve.active = 0 → t.reserve.response = 0))
          ∧ ((w.role = .meter ∨ s.link.station ≠ .running) → t.reserve.response = 0))
      ∧ t.reserve.offerUp = s.reserve.offerUp ∧ t.reserve.offerDown = s.reserve.offerDown
      ∧ t.reserve.upShare = s.reserve.upShare ∧ t.reserve.downShare = s.reserve.downShare
      ∧ t.reserve.shortUp = s.reserve.shortUp ∧ t.reserve.shortDown = s.reserve.shortDown
      ∧ unchangedExcept [.reserve] (s.elapse (time - s.clock)) t

/-- An implausible measurement, from an edge timeout with no frequency or from edges that give a frequency more than 5
Hz from the nominal one, or none because their period sum is 0, is counted and keeps the response; the tenth in a row
enters MAINS_LOST, with the history empty and the response, the offers and the shares 0; in MAINS_LOST it starts the
recovery over (7.2, 7.3). The timeout is taken when its timer stands at 0, and changes nothing otherwise, by assumption
3; that the edge carries its time, and that a period sum of 0 has no frequency, is assumption 15. -/
def Obligations.ImplausibleMeasurementsLoseTheMains : Prop :=
  (∀ s : State, s.reserve.edgeTimeout ≠ some 0 → exec .edgeTimeout s = .next s)
  ∧ ∀ (s a : State) (w : WorkingCopy) (c : Instr) (f : Option Nat) (n : Nat),
    s.store.working = some w →
    (s.link.station = .listening ∨ s.link.station = .running ∨ s.link.station = .clash) →
    ((c = .edgeTimeout ∧ s.reserve.edgeTimeout = some 0 ∧ f = none
        ∧ a = s.setReserve { s.reserve with measurement := none, edgeTimeout := some 50000 })
      ∨ (∃ time edge m cycles sum, c = .mainsEdge time ∧ edge = max s.clock time
        ∧ cycles = (if w.nomf = 50 then 5 else 6)
        ∧ s.reserve.measurement = some m ∧ m.edges + 1 = cycles ∧ sum = edge - m.start
        ∧ f = (if sum = 0 then none else some ((2 * cycles * 1000000000 + sum) / (2 * sum)))
        ∧ (∀ g ∈ f, g + 5000 < w.nomf * 1000 ∨ w.nomf * 1000 + 5000 < g)
        ∧ a = (s.elapse (time - s.clock)).setReserve { s.reserve with
            measurement := some { start := edge, edges := 0, periodSum := 0 }, edgeTimeout := some 50000 })) →
    n = (if s.reserve.implausibleCount < 255 then s.reserve.implausibleCount + 1 else s.reserve.implausibleCount) →
    ∃ t, exec c s = .next t
      ∧ (s.reserve.state = .disabled →
          t.reserve = { a.reserve with lastFrequency := f, plausible := false } ∧ t.service = s.service)
      ∧ (s.reserve.state = .mainsLost →
          t.reserve = { a.reserve with
            lastFrequency := f, plausible := false, implausibleCount := n, history := [], recoveryCount := 0 }
          ∧ t.service = s.service)
      ∧ ((s.reserve.state = .starting ∨ s.reserve.state = .measuring) → n < 10 →
          t.reserve = { a.reserve with lastFrequency := f, plausible := false, implausibleCount := n }
          ∧ t.service = s.service)
      ∧ ((s.reserve.state = .starting ∨ s.reserve.state = .measuring) → 10 ≤ n →
          t.reserve = { a.reserve with
            lastFrequency := f, plausible := false, implausibleCount := n, history := [], recoveryCount := 0
            active := 0, droop := 0, response := 0, offerUp := 0, offerDown := 0, upShare := 0, downShare := 0
            state := .mainsLost }
          ∧ t.service = { s.service with pendingCauses := s.service.pendingCauses ||| 256#12 })
      ∧ unchangedExcept [.reserve, .service] a t

/-- A vehicle is accepting in a linked state with the pilot ENERGY, its accepting flag set and its contactor closed
(1.4). The offers of a control period follow the table of 7.5: none outside a post in RUNNING with a live reserve; down
by the draw and the discharge offer, up to the upper clamp while the vehicle accepts and its store is not full. Each
share is lowered to its offer, and the response to the shares (7.5, 7.6; that the upper clamp is worked out from the
values of this moment is assumption 39). -/
def Obligations.OffersFollowTheTable : Prop :=
  ∀ (s : State) (up down upper : Nat) (room : Bool),
    (s.accepting = true ↔
      s.tracker.readiness ∈ [.unplanned, .charging, .atRisk, .topped, .conditioning, .due] ∧ s.vehicle.pilot = .energy
      ∧ ∃ k, s.vehicle.lastStatus = some k ∧ k.flags.getLsbD 0 = true ∧ k.flags.getLsbD 1 = true)
    ∧ (s.tracker.readiness.linked = true ↔
      s.tracker.readiness ∈ [.unplanned, .charging, .atRisk, .topped, .conditioning, .due])
    ∧ (upper =
        (if s.accepting then min (s.vehicle.lastStatus.elim 0 fun k => k.pvmax.toNat) s.composer.pderated else 0) →
    room = (match s.account.enow, s.vehicle.lastStatus with
      | some e, some status => decide (e < status.ecap.toNat)
      | _, _ => false) →
    (up, down) = (if s.isPost = true ∧ s.link.station = .running
          ∧ (s.reserve.state = .starting ∨ s.reserve.state = .measuring) then
        (if s.accepting = true ∧ room = true then ((upper : Int) - s.composer.draw).toNat else 0,
          s.composer.draw.toNat + s.account.offer)
      else (0, 0)) →
    ∃ t, exec .offerCompute s = .next t
      ∧ t.reserve = { s.reserve with
          offerUp := up, offerDown := down
          upShare := min s.reserve.upShare up, downShare := min s.reserve.downShare down
          response := max (-((min s.reserve.downShare down : Nat) : Int))
            (min ((min s.reserve.upShare up : Nat) : Int) s.reserve.response) }
      ∧ unchangedExcept [.reserve] s t)

/-! ## The power stage -/

/-- A REPORT taken by a post: draw, converter state and temperature stored, the silent count cleared, the derating
computed by 8.3, the mode moved by the reported state, a FAULT halting a session with a STOP and its reason, and the
power integrated while a session exists, after which Enow, L, the gate and the offer are those of 3.3 to 3.5. A changed
derated power recomputes the tracker of a linked session by 2.2 to 2.4, before a halt and before the power is
integrated; it may raise AT_RISK_ENTERED. A state code above 3 discards the frame (1.2, 2.2 to 2.5, 3.2 to 3.5, 6.7, 8.2, 8.3, 8.6,
8.7; that a STAGE_TIMEOUT found ends with the next wake is assumption 38; a meter's REPORT, and one in LOADING and
UNCONFIGURED, are in `FeederSampleDetectsOverload`). -/
def Obligations.ReportIsTaken : Prop :=
  ∀ (s : State) (r : WireReport),
    ((3 < r.state.toNat
        ∨ (s.store.working = none ∧ s.link.station ≠ .loading ∧ s.link.station ≠ .unconfigured)) →
      exec (.reportReceived r) s = .next s)
    ∧ (∀ (w : WorkingCopy) (converter : Converter) (temperature power : Int) (index pderated : Nat)
        (live : Bool),
      s.store.working = some w → w.role = .post →
      (s.link.station = .listening ∨ s.link.station = .running ∨ s.link.station = .clash) →
      ((r.state = 0 ∧ converter = .standby) ∨ (r.state = 1 ∧ converter = .waking)
        ∨ (r.state = 2 ∧ converter = .ready) ∨ (r.state = 3 ∧ converter = .fault)) →
      temperature = r.temperature.toInt → power = r.power.toInt →
      (index : Int) = max 0 (min 15 ((temperature - 40) / 5)) → pderated = w.prated * w.derate.getD index 0 / 256 →
      live = (s.tracker.readiness.linked || s.tracker.readiness == .linking) →
      ∃ t, exec (.reportReceived r) s = .next t
        ∧ t.composer = { s.composer with
            draw := power, converter := some converter, temperature := some temperature, silentCount := 0
            derateIndex := index, derateFactor := w.derate.getD index 0, pderated := pderated
            mode := (match s.composer.mode with
              | .standby => .standby
              | .wake => if converter = .ready then .run else .wake
              | .run => if converter = .ready then .run else if s.composer.target ≠ 0 then .wake else .standby)
            settle := t.composer.settle, idleTimer := t.composer.idleTimer, wakeTimer := t.composer.wakeTimer
            timedOut := s.composer.timedOut
              && !(decide (s.composer.mode = .run) && decide (converter ≠ .ready)
                && decide (s.composer.target ≠ 0)) }
        ∧ (s.composer.mode = .wake → converter = .ready → t.composer.settle = 2 ∧ t.composer.wakeTimer = none
            ∧ t.composer.idleTimer = s.composer.idleTimer)
        ∧ (s.composer.mode = .run → converter ≠ .ready → t.composer.settle = 0 ∧ t.composer.idleTimer = 0
            ∧ t.composer.wakeTimer = if s.composer.target ≠ 0 then some 0 else none)
        ∧ ((s.composer.mode = .standby ∨ (s.composer.mode = .wake ∧ converter ≠ .ready)
              ∨ (s.composer.mode = .run ∧ converter = .ready)) →
            t.composer.settle = s.composer.settle ∧ t.composer.idleTimer = s.composer.idleTimer
            ∧ t.composer.wakeTimer = s.composer.wakeTimer)
        ∧ (s.vehicle.sessionOpen = true →
            t.account.delta = (integrate power s.account).delta
            ∧ t.account.deltaResidue = (integrate power s.account).deltaResidue
            ∧ t.account.energyIn = (integrate power s.account).energyIn
            ∧ t.account.inResidue = (integrate power s.account).inResidue
            ∧ t.account.energyOut = (integrate power s.account).energyOut
            ∧ t.account.outResidue = (integrate power s.account).outResidue
            ∧ t.account.enow = s.vehicle.lastStatus.map fun k =>
                (max 0 (min (k.ecap.toNat : Int) (k.eveh.toNat + (integrate power s.account).delta))).toNat)
        ∧ (s.vehicle.sessionOpen = true → t.LendsByTable)
        ∧ (s.vehicle.sessionOpen = false →
            t.account = { s.account with
              gate := t.account.gate, lendable := t.account.lendable, offer := t.account.offer })
        ∧ (converter = .fault → live = true →
            s.HaltedBy .stageFault t ∧ t.share.allowance = 0 ∧ t.LendsByTable
            ∧ t.service = { s.service with pendingCauses := t.service.pendingCauses }
            ∧ (t.service.pendingCauses = s.service.pendingCauses ||| 2#12
              ∨ (pderated ≠ s.composer.pderated
                ∧ t.service.pendingCauses = s.service.pendingCauses ||| 3#12)))
        ∧ ((converter ≠ .fault ∨ live = false) →
            (pderated = s.composer.pderated ∨ s.tracker.readiness.linked = false) →
            t.tracker = s.tracker ∧ t.share = s.share ∧ t.service = s.service ∧ t.vehicle = s.vehicle
            ∧ (s.vehicle.sessionOpen = false → t.account = s.account))
        ∧ (converter ≠ .fault → pderated ≠ s.composer.pderated → s.tracker.readiness.linked = true →
            s.tracker.card.isSome = true →
            (∃ d, t.tracker.derived = some d
              ∧ d.pmax = min (s.vehicle.lastStatus.elim 0 fun k => k.pvmax.toNat) pderated)
            ∧ t.tracker.claim ≤ pderated ∧ t.share.allowance = min s.share.allowance t.tracker.claim
            ∧ t.vehicle = s.vehicle)
        ∧ (∀ c n, converter ≠ .fault → pderated ≠ s.composer.pderated → s.tracker.readiness.linked = true →
            s.tracker.card = some c → s.tracker.countdown = some n →
            t.TrackerFollows w c n s.account.enow ∧ t.LendsByTable
            ∧ t.tracker = { s.tracker with
                derived := t.tracker.derived, readiness := t.tracker.readiness, urgency := t.tracker.urgency
                claim := t.tracker.claim, outcome := t.tracker.outcome }
            ∧ s.share.LoweredTo t.tracker.claim t.share
            ∧ t.service =
                (if t.tracker.readiness = .atRisk ∧ s.tracker.readiness ≠ .atRisk then
                  { s.service with pendingCauses := s.service.pendingCauses ||| 1#12 }
                else s.service))
        ∧ unchangedExcept [.composer, .tracker, .account, .share, .vehicle, .service] s t)

/-- A meter's sample is stored; in RUNNING it counts consecutive samples above the trip level, and at the NTRIP-th and
at each sample above FCAP while shedding it asks for a SHED with the fraction of 6.10 when some post draws; at a
sample at or below FCAP shedding ends. In LISTENING and CLASH it is stored and not counted. In LOADING and UNCONFIGURED
a REPORT is not counted and changes nothing but the feeder sample, which takes its power or stays: 6.10 lets samples
reach the feed there and 8.1 discards them, and a free value decides (6.10, 8.1, 8.8, 4.4; that it is a free value is
assumption 40). -/
def Obligations.FeederSampleDetectsOverload : Prop :=
  (∀ (s : State) (r : WireReport) (c : Instr),
    (c = .feederSample r ∨ c = .reportReceived r) → r.state.toNat ≤ 3 →
    (s.link.station = .loading ∨ s.link.station = .unconfigured) →
    ∃ t, exec c s = .next t
      ∧ (t.composer = s.composer ∨ t.composer = { s.composer with feederSample := some r.power.toInt })
      ∧ unchangedExcept [.composer, .freeDraws] s t)
  ∧ ∀ (s : State) (w : WorkingCopy) (r : WireReport) (m : Int) (dpos count f : Nat) (above sheds : Bool)
    (frame : WireShed),
    s.store.working = some w → w.role = .meter → r.state.toNat ≤ 3 → m = r.power.toInt →
    (s.link.station = .listening ∨ s.link.station = .running ∨ s.link.station = .clash) →
    dpos = positiveDraw s.contributions →
    above = decide ((w.fcap : Int) * (1000 + w.trip) < m * 1000) →
    sheds = (s.share.shedding || (above && decide (w.ntrip ≤ s.share.overloadCount + 1))) →
    count = (if s.share.shedding then s.share.overloadCount
      else if above then min (s.share.overloadCount + 1) w.ntrip else 0) →
    f = min 1024 (max 1 (((m - w.fcap).toNat * 1024 + dpos - 1) / dpos)) →
    frame = { station := BitVec.ofNat 8 (min w.station 255), fraction := BitVec.ofNat 16 (min f 65535) } →
    ∃ t, exec (.feederSample r) s = .next t
      ∧ t.composer = { s.composer with feederSample := some m }
      ∧ (s.link.station ≠ .running → unchangedExcept [.composer] s t)
      ∧ (s.link.station = .running → sheds = false →
          t.share = { s.share with overloadCount := count } ∧ unchangedExcept [.composer, .share] s t)
      ∧ (s.link.station = .running → sheds = true → m ≤ w.fcap →
          t.share = { s.share with overloadCount := 0, shedding := false }
          ∧ unchangedExcept [.composer, .share] s t)
      ∧ (s.link.station = .running → sheds = true → (w.fcap : Int) < m → dpos = 0 →
          t.share = { s.share with overloadCount := count, shedding := true }
          ∧ unchangedExcept [.composer, .share] s t)
      ∧ (s.link.station = .running → sheds = true → (w.fcap : Int) < m → 0 < dpos →
          t.share = { s.share with overloadCount := count, shedding := true, lastFraction := some f }
          ∧ (s.link.transmitting ≠ some .shed →
              t.link = { s.link with
                shedHand := some { frame := frame, attempts := 0 } })
          ∧ (s.link.transmitting = some .shed →
              t.link = { s.link with
                shedBehind := some frame })
          ∧ unchangedExcept [.composer, .share, .link] s t)

/-- The dither of 8.5: the output is QSTEP x floor((target + e) / QSTEP) with the remainder as residue, clamped to the
multiples of QSTEP within the clamps with residue 0; the output is a multiple of QSTEP within the clamps and the
residue lies from 0 to QSTEP - 1. -/
def Obligations.DitherKeepsEveryUnit : Prop :=
  ∀ (q : Nat) (lower upper target e low high raw : Int),
    0 < q → lower ≤ 0 → 0 ≤ upper → 0 ≤ e → e < q →
    low = q * -(-lower / q) → high = q * (upper / q) → raw = q * ((target + e) / q) →
    (dithered q lower upper target e).1 = (if raw < low then low else if high < raw then high else raw)
    ∧ (dithered q lower upper target e).2 = (if raw < low ∨ high < raw then 0 else target + e - raw)
    ∧ ((q : Int) ∣ (dithered q lower upper target e).1)
    ∧ lower ≤ (dithered q lower upper target e).1 ∧ (dithered q lower upper target e).1 ≤ upper
    ∧ 0 ≤ (dithered q lower upper target e).2 ∧ (dithered q lower upper target e).2 < q
    ∧ lower ≤ low ∧ low ≤ 0 ∧ 0 ≤ high ∧ high ≤ upper ∧ low < lower + q ∧ upper < high + q

/-- One control period of a post whose converter answers, or whose readiness is VACANT or HALTED: the silent count, the
draw, the clamps, the ramp, the clamped target, the mode transitions, the dithered output, the demand it delivers only
in RUNNING, linked, in RUN, READY and settled, the DEMAND with its bytes, and the PERMIT that takes the place of a
waiting one; a converter in FAULT delivers nothing and halts a session in LINKING or a linked state at step 5, with a
STOP and no PERMIT; that halt ends lending, so the lower clamp is 0 in the same period and the clamped target at least 0
(3.4). In LOADING and UNCONFIGURED, and in the METER role, a period sends nothing and changes nothing (8.1, 8.4 to 8.8,
1.4, 10.4, 10.7; that the newer PERMIT stands at the end of the waiting frames is assumption 11, that a STAGE_TIMEOUT
found ends with the next wake assumption 38, and that such a halt leaves the upper clamp, Ar and the mode as steps 2 to
5 gave them before it assumption 42). -/
def Obligations.ControlPeriodComposesTheDemand : Prop :=
  (∀ (value : Int) (mode : StageMode) (code : Byte) (body : List Byte), -32768 ≤ value → value ≤ 32767 →
    (mode, code) ∈ [(.standby, 0), (.wake, 1), (StageMode.run, (2 : Byte))] →
    body = [0x31, BitVec.ofInt 8 (value % 256), BitVec.ofInt 8 (value / 256), code] →
    demandFrame value mode = body ++ bytesOfWord (crc16 body))
  ∧ (∀ s : State, (s.link.station = .loading ∨ s.link.station = .unconfigured ∨ s.isMeter = true) →
      exec .controlPeriod s = .next s)
  ∧ ∀ (s : State) (w : WorkingCopy) (upper : Nat) (lower target goal out residue : Int) (idles delivers faulted : Bool)
    (silent ramped idle settle : Nat) (mode : StageMode) (wake : Option Nat),
    s.store.working = some w → w.role = .post →
    (s.link.station = .listening ∨ s.link.station = .running ∨ s.link.station = .clash) →
    (s.composer.silentCount < 4 ∨ s.tracker.readiness = .vacant ∨ s.tracker.readiness = .halted) →
    faulted = (decide (s.composer.converter = some .fault)
      && (s.tracker.readiness.linked || s.tracker.readiness == .linking)) →
    silent = (if s.composer.silentCount < 255 then s.composer.silentCount + 1 else s.composer.silentCount) →
    upper = (if s.accepting then min (s.vehicle.lastStatus.elim 0 fun k => k.pvmax.toNat) s.composer.pderated else 0) →
    ramped = (if s.composer.ramped < min s.share.allowance upper then
        min (min s.share.allowance upper) (s.composer.ramped + w.ramp)
      else min s.share.allowance upper) →
    target = max (-(s.account.offer : Int))
      (min (upper : Int) ((ramped : Int) - s.share.discharge + s.reserve.response)) →
    idles = (decide (target = 0) && !s.accepting
      && !(s.tracker.derived.any Derived.windowOpen && s.tracker.card.any fun k => decide (0 < k.pcond))) →
    (mode, idle, settle, wake) = (match s.composer.mode with
      | .standby =>
        if target = 0 then (.standby, s.composer.idleTimer, s.composer.settle, s.composer.wakeTimer)
        else (.wake, 0, 0, some 0)
      | .wake => (.wake, s.composer.idleTimer, s.composer.settle, s.composer.wakeTimer)
      | .run =>
        if idles then
          if w.idle * 1000 ≤ s.composer.idleTimer + 100 then (.standby, 0, 0, none)
          else (.run, s.composer.idleTimer + 100, s.composer.settle, s.composer.wakeTimer)
        else (.run, 0, s.composer.settle, s.composer.wakeTimer)) →
    delivers = (decide (s.link.station = .running) && s.tracker.readiness.linked && decide (mode = .run)
      && decide (s.composer.converter = some .ready) && decide (settle = 0)) →
    lower = (if faulted then 0 else -(s.account.offer : Int)) → goal = max lower target →
    (out, residue) = dithered w.qstep lower upper goal s.composer.residue →
    ∃ t, exec .controlPeriod s = .next t
      ∧ t.composer = { s.composer with
          silentCount := silent, draw := if 5 ≤ silent then 0 else s.composer.draw
          upperClamp := upper, lowerClamp := lower
          ramped := ramped, target := goal, mode := mode, idleTimer := idle, wakeTimer := wake
          timedOut := s.composer.timedOut && !(decide (s.composer.mode = .standby) && decide (target ≠ 0))
          settle := settle - 1, output := out
          residue := if delivers then residue else 0
          demand := if delivers then out else 0
          tx := demandFrame (if delivers then out else 0) mode }
      ∧ (faulted = false →
          t.vehicle = (if s.tracker.readiness.linked then
              { s.vehicle with
                waiting := s.vehicle.waiting.filter (fun f => !f.isPermit)
                  ++ [.permit s.vehicle.session (if delivers then out else 0)] }
            else s.vehicle)
          ∧ unchangedExcept [.composer, .vehicle] s t)
      ∧ (faulted = true →
          s.Halts .stageFault t ∧ delivers = false
          ∧ unchangedExcept [.composer, .vehicle, .tracker, .account, .share, .service] s t)

/-- The stage faults halt a session in LINKING or a linked state, with both timers stopped, a waiting PERMIT discarded,
one STOP with the reason to a session, HALTED entered and raised, and claim, A, L and offer 0: STAGE_SILENT at the fifth
period without a REPORT, with the draw and that period's demand 0, STAGE_FAULT at a period with the converter in FAULT,
and STAGE_TIMEOUT at the wake timer's expiry, with the mode STANDBY. The idle timer's expiry returns RUN to STANDBY
(1.2, 1.4, 2.5, 3.4, 6.7, 8.1, 8.4, 8.6 to 8.8; that steps 2 to 4 of the period find A, the offer and the accepting
condition as a halt at step 1 leaves them is assumption 41, that the commands STAGE_SILENT and IDLE_TIMER_EXPIRY look at
their condition, and change nothing while it does not hold, is assumption 19, that the wake timer's expiry is taken when
it stands at 10 s, and changes nothing otherwise, assumption 3, and that STAGE_TIMEOUT stands from then on until the
next wake or reset assumption 38). -/
def Obligations.StageFaultsHaltTheSession : Prop :=
  (∀ s : State, (s.link.station = .loading ∨ s.link.station = .unconfigured ∨ s.isMeter = true) →
    exec .stageSilent s = .next s ∧ exec .idleTimerExpiry s = .next s)
  ∧ ∀ (s : State) (w : WorkingCopy), s.store.working = some w → w.role = .post →
    (s.link.station = .listening ∨ s.link.station = .running ∨ s.link.station = .clash) →
    (4 ≤ s.composer.silentCount → s.composer.silentCount ≤ 255 →
      ∃ t, exec .controlPeriod s = .next t ∧ t.composer.draw = 0 ∧ t.composer.demand = 0
        ∧ t.composer.silentCount = min 255 (s.composer.silentCount + 1)
        ∧ unchangedExcept [.composer, .vehicle, .tracker, .account, .share, .service] s t
        ∧ (s.tracker.readiness.linked = true ∨ s.tracker.readiness = .linking →
            s.Halts .stageSilent t
            ∧ ∀ mode idle settle wake,
              (mode, idle, settle, wake) =
                (if s.composer.mode = .run then
                  (if w.idle * 1000 ≤ s.composer.idleTimer + 100 then (StageMode.standby, 0, 0, (none : Option Nat))
                  else (.run, s.composer.idleTimer + 100, s.composer.settle, s.composer.wakeTimer))
                else (s.composer.mode, s.composer.idleTimer, s.composer.settle, s.composer.wakeTimer)) →
              t.composer = { s.composer with
                silentCount := min 255 (s.composer.silentCount + 1), draw := 0, upperClamp := 0, lowerClamp := 0
                ramped := 0, target := 0, mode := mode, idleTimer := idle, wakeTimer := wake, settle := settle - 1
                output := 0, residue := 0, demand := 0, tx := demandFrame 0 mode }))
    ∧ (s.composer.silentCount < 5 → exec .stageSilent s = .next s)
    ∧ (5 ≤ s.composer.silentCount →
      ∃ t, exec .stageSilent s = .next t ∧ t.composer = { s.composer with draw := 0 }
        ∧ (s.tracker.readiness.linked = true ∨ s.tracker.readiness = .linking →
            s.Halts .stageSilent t
            ∧ unchangedExcept [.composer, .vehicle, .tracker, .account, .share, .service] s t)
        ∧ (s.tracker.readiness = .vacant ∨ s.tracker.readiness = .halted → unchangedExcept [.composer] s t))
    ∧ (s.composer.converter = some .fault → s.composer.silentCount < 4 →
        (s.tracker.readiness.linked = true ∨ s.tracker.readiness = .linking) →
      ∃ t, exec .controlPeriod s = .next t ∧ s.Halts .stageFault t ∧ t.composer.demand = 0
        ∧ t.composer.lowerClamp = 0 ∧ 0 ≤ t.composer.target
        ∧ unchangedExcept [.composer, .vehicle, .tracker, .account, .share, .service] s t)
    ∧ (s.composer.wakeTimer = some 10000000 →
      ∃ t, exec .wakeTimerExpiry s = .next t
        ∧ t.composer = { s.composer with
            mode := .standby, wakeTimer := none, timedOut := true, idleTimer := 0, settle := 0 }
        ∧ (s.tracker.readiness.linked = true ∨ s.tracker.readiness = .linking →
            s.Halts .stageTimeout t
            ∧ unchangedExcept [.composer, .vehicle, .tracker, .account, .share, .service] s t)
        ∧ (s.tracker.readiness = .vacant ∨ s.tracker.readiness = .halted → unchangedExcept [.composer] s t))
    ∧ (s.composer.wakeTimer ≠ some 10000000 → exec .wakeTimerExpiry s = .next s)
    ∧ ((s.composer.mode = .run → w.idle * 1000 ≤ s.composer.idleTimer →
        ∃ t, exec .idleTimerExpiry s = .next t
          ∧ t.composer = { s.composer with mode := .standby, wakeTimer := none, idleTimer := 0, settle := 0 }
          ∧ unchangedExcept [.composer] s t)
      ∧ ((s.composer.mode ≠ .run ∨ s.composer.idleTimer < w.idle * 1000) →
          exec .idleTimerExpiry s = .next s))

/-! ## The service port -/

/-- READ_ITEM answers from the state and changes nothing but the service port: RANGE for a code outside 10.10, for an
index other than 0, for a page above 15 and for an entry beyond the table's last; otherwise OK with the item's data, in
the order 10.10 lists it, a value that may be absent after its presence byte, each code by its table, each number low
byte first and beyond its field the nearer bound (3.3, 5.2, 10.1, 10.5 to 10.7, 10.10; the widths the manual leaves to
be inferred, the presence bytes it does not list, what stands in a field whose value is absent, and that times are sent
in whole ms, rounded down, are the model's choice, assumption 9; that the undefined flag bits of the STATUS are sent as
0 is assumption 30, by 10.3; that a STAGE_TIMEOUT found stands on is assumption 38). -/
def Obligations.ItemsAreAnswered : Prop :=
  ((∀ c ∈ [(Station.loading, 0), (.unconfigured, 1), (.listening, 2), (.running, 3), (.clash, 4)], c.1.code = c.2)
    ∧ (∀ c ∈ [(Role.post, 1), (.meter, 2)], c.1.code = c.2)
    ∧ (∀ c ∈ [(Readiness.vacant, 0), (.linking, 1), (.unplanned, 2), (.charging, 3), (.atRisk, 4), (.topped, 5),
          (.conditioning, 6), (.due, 7), (.halted, 8)], c.1.code = c.2)
    ∧ (∀ c ∈ [(PilotClass.none, 0), (.present, 1), (.energy, 2), (.invalid, 3), (.shortLow, 4), (.shortHigh, 5)],
        c.1.code = c.2)
    ∧ (∀ c ∈ [(Proximity.opened, 0), (.closed, 1)], c.1.code = c.2)
    ∧ (∀ c ∈ [(Earth.ok, 0), (.lost, 1)], c.1.code = c.2)
    ∧ (∀ c ∈ [(LendingGate.isOpen, 0), (.notTopped, 1), (.inWindow, 2), (.belowGuard, 3)], c.1.code = c.2)
    ∧ (∀ c ∈ [(ReserveState.disabled, 0), (.starting, 1), (.measuring, 2), (.mainsLost, 3)], c.1.code = c.2)
    ∧ (∀ c ∈ [(StageMode.standby, 0), (.wake, 1), (.run, 2)], c.1.code = c.2)
    ∧ (∀ c ∈ [(Converter.standby, 0), (.waking, 1), (.ready, 2), (.fault, 3)], c.1.code = c.2)
    ∧ (∀ c ∈ [(LoopResult.none, 0), (.running, 1), (.pass, 2), (.fail, 3), (.aborted, 4)], c.1.code = c.2)
    ∧ (∀ c ∈ [(RunOutcome.met, 1), (.short, 2), (.halted, 3), (.noPlan, 4)], c.1.code = c.2)
    ∧ (∀ c ∈ [(HaltReason.pilotShortLow, 1), (.pilotShortHigh, 2), (.pilotInvalid, 3), (.proximityOpen, 4),
          (.earthLost, 5), (.vehicleSilent, 6), (.crossed, 7), (.linkup, 8), (.vehicleFault, 9), (.stageSilent, 10),
          (.stageFault, 11), (.stageTimeout, 12)], c.1.code = c.2)
    ∧ (∀ c ∈ [(LoadResult.loaded, 0), (.loadedClamped, 1), (.noAnswer, 2), (.signature, 3), (.crc, 4), (.station, 5),
          (.role, 6), (.loading, 7)], c.1.code = c.2)
    ∧ (∀ c ∈ [(WritebackResult.none, 0), (.done, 1), (.failed, 2)], c.1.code = c.2))
  ∧ (∀ n x,
    byteOf n = BitVec.ofNat 8 (min n 255)
    ∧ nat16 n = (List.range 2).map (fun i => BitVec.ofNat 8 (min n 65535 / 256 ^ i))
    ∧ nat32 n = (List.range 4).map (fun i => BitVec.ofNat 8 (min n 4294967295 / 256 ^ i))
    ∧ int16 x = (List.range 2).map (fun i => BitVec.ofInt 8 (max (-32768) (min 32767 x) / 256 ^ i))
    ∧ int32 x = (List.range 4).map (fun i => BitVec.ofInt 8 (max (-2147483648) (min 2147483647 x) / 256 ^ i)))
  ∧ ∀ (s : State) (item index : Byte) (answer : Status → List Byte → Service) (left governing : Nat),
    (∀ status data, answer status data =
      { s.service with response := some { status := status, data := data }, tx := List.replicate 6 0 }) →
    left = (match s.link.station with
      | .listening => s.link.listenTimer.getD 0 / 1000
      | .running => s.link.announceTimer.getD 0 / 1000
      | .loading | .unconfigured | .clash => 0) →
    (s.peers.entries.find? (fun p => p.role == .meter)).elim (governing = 0) (fun p => governing = p.station) →
    ∃ t, exec (.readItem item index) s = .next t
      ∧ unchangedExcept [.service] s t
      ∧ (∀ (α : Type) (width : Nat) (bytes : α → List Byte), mayBeAbsent width bytes none = 0 :: List.replicate width 0
          ∧ ∀ x, mayBeAbsent width bytes (some x) = 1 :: bytes x)
      ∧ ((item.toNat = 0 ∨ 13 ≤ item.toNat) → t.service = answer .rangeError [])
      ∧ (item.toNat ≠ 7 → item.toNat ≠ 11 → index ≠ 0 → t.service = answer .rangeError [])
      ∧ (item.toNat = 7 → s.peers.entries.length ≤ index.toNat → t.service = answer .rangeError [])
      ∧ (item.toNat = 11 → 15 < index.toNat → t.service = answer .rangeError [])
      ∧ (item.toNat = 1 → index = 0 → t.service = answer .ok
          ([BitVec.ofNat 8 s.link.station.code, BitVec.ofNat 8 (s.role.elim 0 Role.code), byteOf s.stationNumber]
            ++ nat32 left
            ++ [byteOf s.peers.entries.length, if s.peers.alone then 1 else 0, byteOf governing]))
      ∧ (item.toNat = 2 → index = 0 → t.service = answer .ok
          ([BitVec.ofNat 8 s.tracker.readiness.code]
            ++ mayBeAbsent 8 (fun c : RunCard => nat16 c.departure ++ nat16 c.eroute
                ++ [if c.conditioning.isSome then 1 else 0] ++ nat16 (c.conditioning.elim 0 Conditioning.pcond)
                ++ [byteOf (c.conditioning.elim 0 Conditioning.tcond)]) s.tracker.card
            ++ nat16 (s.tracker.countdown.getD 0)
            ++ mayBeAbsent 4 (fun n : Nat => int32 n) (s.tracker.derived.map Derived.efloor)
            ++ mayBeAbsent 4 (fun n : Nat => int32 n) (s.tracker.derived.bind Derived.egap)
            ++ mayBeAbsent 2 nat16 (s.tracker.derived.map Derived.pmax)
            ++ mayBeAbsent 2 nat16 (s.tracker.derived.bind Derived.tmin)
            ++ mayBeAbsent 4 int32 (s.tracker.derived.bind Derived.slack)
            ++ mayBeAbsent 1 (fun b : Bool => [if b then 1 else 0]) (s.tracker.derived.map Derived.windowOpen)
            ++ mayBeAbsent 2 nat16 (s.tracker.derived.map Derived.etarget)
            ++ [byteOf s.tracker.urgency] ++ nat16 s.tracker.claim ++ nat16 s.tracker.atRiskMinutes
            ++ mayBeAbsent 1 (fun o => [BitVec.ofNat 8 (RunOutcome.code o)]) s.tracker.outcome
            ++ mayBeAbsent 1 (fun r => [BitVec.ofNat 8 (HaltReason.code r)]) s.tracker.haltReason))
      ∧ (item.toNat = 3 → index = 0 → t.service = answer .ok
          ([BitVec.ofNat 8 s.vehicle.pilot.code, BitVec.ofNat 8 s.vehicle.proximity.code,
            BitVec.ofNat 8 s.vehicle.earth.code, s.vehicle.session, byteOf s.vehicle.helloCount,
            if s.vehicle.watchdog.isSome then 1 else 0]
            ++ mayBeAbsent 6 (fun id : VehicleId => id.toList) s.vehicle.vehicleId
            ++ mayBeAbsent 10 (fun k : WireStatus => bytesOfWord k.eveh ++ bytesOfWord k.ecap ++ bytesOfWord k.pvmax
                ++ bytesOfWord k.pvdis ++ [k.flags &&& 7, k.echo]) s.vehicle.lastStatus))
      ∧ (item.toNat = 4 → index = 0 → t.service = answer .ok
          (mayBeAbsent 2 nat16 s.account.enow
            ++ mayBeAbsent 2 (fun k : WireStatus => bytesOfWord k.eveh) s.vehicle.lastStatus
            ++ mayBeAbsent 2 (fun k : WireStatus => bytesOfWord k.ecap) s.vehicle.lastStatus
            ++ int16 s.account.delta ++ int32 s.account.deltaResidue
            ++ nat16 s.account.energyIn ++ int32 s.account.inResidue
            ++ nat16 s.account.energyOut ++ int32 s.account.outResidue
            ++ nat16 s.account.lendable ++ [BitVec.ofNat 8 s.account.gate.code] ++ nat16 s.account.offer
            ++ s.vehicle.lastStatus.elim [0, 0] fun k => bytesOfWord k.pvdis))
      ∧ (item.toNat = 5 → index = 0 → t.service = answer .ok
          ([BitVec.ofNat 8 s.reserve.state.code] ++ mayBeAbsent 4 nat32 s.reserve.lastFrequency
            ++ [if s.reserve.plausible then 0 else 1] ++ [byteOf s.reserve.history.length]
            ++ int16 (s.reserve.history.getD 0 0) ++ int16 (s.reserve.history.getD 1 0)
            ++ int16 (s.reserve.history.getD 2 0) ++ int16 s.reserve.active ++ nat16 s.reserve.droop
            ++ [byteOf s.reserve.implausibleCount, byteOf s.reserve.recoveryCount]
            ++ nat16 s.reserve.offerUp ++ nat16 s.reserve.offerDown ++ nat16 s.reserve.upShare
            ++ nat16 s.reserve.downShare
            ++ [if s.reserve.shortUp then 1 else 0, if s.reserve.shortDown then 1 else 0]
            ++ int16 s.reserve.response))
      ∧ (item.toNat = 6 → index = 0 → t.service = answer .ok
          (nat16 s.share.allowance ++ nat16 s.share.held ++ [if s.share.tenure then 1 else 0]
            ++ int32 (if s.share.tenure then s.share.tenureLeft else 0) ++ nat16 s.share.discharge
            ++ [if s.share.contested then 1 else 0] ++ nat32 s.share.interval
            ++ mayBeAbsent 24 (fun b : Budget => nat16 b.guard ++ [byteOf (b.meter.getD 0)]
                ++ mayBeAbsent 2 nat16 b.feederLoad ++ int32 b.totalDraw ++ int32 b.siteLoad ++ int32 b.headroom
                ++ nat16 b.budget ++ int32 b.overdraw) s.share.budget
            ++ [if s.share.shedHold then 1 else 0]
            ++ nat32 (if s.share.shedHold then s.share.shedTimer.getD 0 / 1000 else 0) ++ nat16 s.share.shedCap
            ++ [byteOf s.share.overloadCount, if s.share.shedding then 1 else 0]
            ++ mayBeAbsent 2 nat16 s.share.lastFraction
            ++ nat16 s.composer.ramped ++ int16 s.composer.upperClamp ++ int16 s.composer.lowerClamp
            ++ int16 s.composer.target ++ int16 s.composer.output ++ int16 s.composer.residue
            ++ int16 s.composer.demand ++ [BitVec.ofNat 8 s.composer.mode.code]
            ++ mayBeAbsent 1 (fun c => [BitVec.ofNat 8 (Converter.code c)]) s.composer.converter
            ++ int16 s.composer.draw ++ mayBeAbsent 1 (fun k => [BitVec.ofInt 8 k]) s.composer.temperature
            ++ [byteOf s.composer.derateIndex] ++ nat16 s.composer.derateFactor ++ nat16 s.composer.pderated
            ++ [byteOf s.composer.settle] ++ nat32 s.composer.idleTimer ++ nat32 (s.composer.wakeTimer.getD 0 / 1000)
            ++ [byteOf s.composer.silentCount, if 5 ≤ s.composer.silentCount then 1 else 0,
                if s.composer.converter = some .fault then 1 else 0,
                if s.composer.timedOut = true ∨ s.composer.wakeTimer = some 10000000 then 1 else 0]
            ++ mayBeAbsent 2 int16 s.composer.feederSample))
      ∧ (item.toNat = 7 → ∀ p ∈ s.peers.entries[index.toNat]?, t.service = answer .ok
          ([byteOf p.station, BitVec.ofNat 8 p.role.code, p.flags, byteOf p.readiness, byteOf p.urgency]
            ++ nat16 p.claim ++ nat16 p.held ++ int16 p.draw ++ nat16 p.offerUp ++ nat16 p.offerDown
            ++ nat16 p.dischargeOffer ++ nat16 p.lendable ++ nat16 p.feederLoad ++ nat32 (p.age / 1000)))
      ∧ (item.toNat = 8 → index = 0 → t.service = answer .ok
          (nat16 s.link.goodFrames ++ nat16 s.link.crcErrors ++ nat16 s.link.malformed ++ nat16 s.link.collisions
            ++ nat16 s.link.dropped))
      ∧ (item.toNat = 9 → index = 0 → t.service = answer .ok
          ([byteOf s.vehicle.crcErrors, BitVec.ofNat 8 s.vehicle.loopResult.code] ++ nat16 s.vehicle.loopErrors))
      ∧ (item.toNat = 10 → index = 0 → t.service = answer .ok
          (match s.tracker.record with
          | none => 1 :: List.replicate 16 0
          | some r =>
            0 :: (mayBeAbsent 6 (fun id : VehicleId => id.toList) r.vehicleId ++ [BitVec.ofNat 8 r.outcome.code]
              ++ nat16 r.energyIn ++ nat16 r.energyOut ++ nat16 r.atRiskMinutes
              ++ mayBeAbsent 1 (fun h => [BitVec.ofNat 8 (HaltReason.code h)]) r.haltReason)))
      ∧ (item.toNat = 11 → index.toNat ≤ 15 →
          t.service = answer .ok ((List.range 16).map fun i => readByte s.store.shadow (16 * index.toNat + i)))
      ∧ (item.toNat = 12 → index = 0 → t.service = answer .ok
          [if s.store.clamped then 1 else 0, BitVec.ofNat 8 s.store.loadResult.code,
           if s.store.writebackRunning then 1 else 0, byteOf s.store.writebackPage,
           BitVec.ofNat 8 s.store.writebackResult.code, byteOf s.store.failingPage])

/-- A WRITE_SHADOW is answered by the first condition that applies: RANGE, BUSY, PROTECTED when any byte addressed
lies in a protected page, OK. An OK write replaces the shadow bytes at the offset onward and changes nothing else; the
edit is readable at once through the shadow bytes item; any other answer has no effect (9.4). -/
def Obligations.ShadowWritesAreChecked : Prop :=
  ∀ (s : State) (offset : Byte) (data : List Byte) (reach : Nat) (answer : Status → Service),
    reach = offset.toNat + data.length →
    (∀ status, answer status =
      { s.service with
        response := some { status := status, data := [] }, tx := List.replicate (5 + data.length) 0 }) →
    ∃ t, exec (.writeShadow offset data) s = .next t
      ∧ ((data = [] ∨ 16 < data.length ∨ 256 < reach) →
          t.service = answer .rangeError ∧ unchangedExcept [.service] s t)
      ∧ (data ≠ [] → data.length ≤ 16 → reach ≤ 256 →
          (s.link.station = .loading ∨ s.store.writebackRunning = true →
            t.service = answer .busy ∧ unchangedExcept [.service] s t)
          ∧ (s.link.station ≠ .loading → s.store.writebackRunning = false →
            ((∃ a, offset.toNat ≤ a ∧ a < reach ∧ a / 16 < s.store.working.elim 0 WorkingCopy.protect) →
              t.service = answer .protectedPage ∧ unchangedExcept [.service] s t)
            ∧ ((∀ a, offset.toNat ≤ a → a < reach → s.store.working.elim 0 WorkingCopy.protect ≤ a / 16) →
              t.service = answer .ok
              ∧ t.store = { s.store with shadow := t.store.shadow }
              ∧ (Mem.wf s.store.shadow = true → ∀ a, readByte t.store.shadow a =
                  if offset.toNat ≤ a ∧ a < reach then data.getD (a - offset.toNat) 0
                  else readByte s.store.shadow a)
              ∧ (∀ page : Byte, page.toNat ≤ 15 → ∃ u, exec (.readItem 11 page) t = .next u
                  ∧ u.service.response = some
                    { status := .ok,
                      data := (List.range 16).map fun i => readByte t.store.shadow (16 * page.toNat + i) })
              ∧ unchangedExcept [.store, .service] s t)))

/-- A WRITEBACK is answered by the first line that applies: BUSY in LOADING, while a write-back runs, outside VACANT
and during a loop test, PROTECTED at an effective protect count of 16, OK in any other case. A refused request changes
nothing; an OK starts the write-back at the page of the effective protect count, with the CRC computed into the
shadow. A meter and an UNCONFIGURED station find readiness VACANT (9.5). -/
def Obligations.WritebackIsAnswered : Prop :=
  ∀ (s : State) (protect : Nat) (busy : Bool) (answer : Status → Service),
    protect = s.store.working.elim 0 WorkingCopy.protect →
    busy = (decide (s.link.station = .loading) || s.store.writebackRunning
      || decide (s.tracker.readiness ≠ .vacant) || decide (s.vehicle.loopResult = .running)) →
    (∀ status, answer status =
      { s.service with response := some { status := status, data := [] }, tx := List.replicate 4 0 }) →
    (∃ t, exec .writeback s = .next t
      ∧ (busy = true → t.service = answer .busy ∧ unchangedExcept [.service] s t)
      ∧ (busy = false → protect = 16 → t.service = answer .protectedPage ∧ unchangedExcept [.service] s t)
      ∧ (busy = false → protect ≠ 16 →
          t.service = answer .ok
          ∧ t.store = { s.store with
              shadow := t.store.shadow, writebackRunning := true, writebackPage := protect }
          ∧ (Mem.wf s.store.shadow = true →
              readWord t.store.shadow 254 = crc16 (readBytes s.store.shadow 0 254)
              ∧ ∀ a, a ≠ 254 → a ≠ 255 → readByte t.store.shadow a = readByte s.store.shadow a)
          ∧ unchangedExcept [.store, .service] s t))
    ∧ (s.Configured → s.SessionSound → s.isMeter = true ∨ s.link.station = .unconfigured →
        s.tracker.readiness = .vacant)

/-- A RESTART is BUSY in LOADING or while a write-back runs, and then changes nothing. Otherwise it is answered OK; the
attention set is emptied and the line armed; every block releases its state: a session gets a STOP, the peer table
becomes empty, the share engine, the reserve unit and the composer take their start-reset values whatever they held, the
last-session record and the counters stay; the shadow's CRC is computed; and the structural checks on the shadow lead to
UNCONFIGURED, or to LISTENING with a new working copy, where the reserve state, the edge timeout and the derating are
set and a vehicle still connected starts a link-up (9.6, 1.9, 2.8, 3.6, 4.8, 5.6, 6.14, 7.9, 8.10, 10.2). Values that
the manual gives none for are assumption 24: the index of the loop test, the latest interval, T_left, the mark of the
last frequency, the latest DEMAND, and with assumption 38 that no STAGE_TIMEOUT stands; which receptions the receiver
delivers after it is assumption 27. -/
def Obligations.RestartRunsTheShadow : Prop :=
  ∀ (s : State) (image : Mem) (w : WorkingCopy) (stops : List ForwardFrame) (answer : Status → Service) (links : Bool)
    (session : Byte),
    session = (if s.vehicle.session = 255 then 1 else s.vehicle.session + 1) →
    image = withImageCrc s.store.shadow → w = formCopy image →
    stops = s.vehicle.waiting.filter ForwardFrame.isStop
      ++ (if s.vehicle.sessionOpen then [.stop s.vehicle.session .restart] else []) →
    (∀ status, answer status =
      { s.service with response := some { status := status, data := [] }, tx := List.replicate 4 0 }) →
    links = (structuralError image == none && decide (w.role = .post)
      && (decide (s.vehicle.pilot = .present) || decide (s.vehicle.pilot = .energy))) →
    ∃ t, exec .restart s = .next t
      ∧ ((s.link.station = .loading ∨ s.store.writebackRunning = true) →
          t.service = answer .busy ∧ unchangedExcept [.service] s t)
      ∧ (s.link.station ≠ .loading → s.store.writebackRunning = false →
          t.service = { answer .ok with
            armed := true
            pendingCauses := if structuralError image ≠ none then 8#12 else if w ≠ storedCopy image then 16#12 else 0 }
          ∧ (Mem.wf s.store.shadow = true → readWord image 254 = crc16 (readBytes s.store.shadow 0 254)
              ∧ ∀ a, a ≠ 254 → a ≠ 255 → readByte image a = readByte s.store.shadow a)
          ∧ t.account = Account.reset ∧ t.peers = PeerTable.reset
          ∧ t.share = { allowance := 0, held := 0, tenure := false, tenureLeft := 0, discharge := 0, shedHold := false,
                        shedTimer := none, shedCap := 0, lastAllocation := none, interval := 0, budget := none,
                        contested := false, overloadCount := 0, shedding := false, lastFraction := none }
          ∧ t.reserve =
              { measurement := none, lastFrequency := none, plausible := false, history := [], active := 0
                droop := 0, implausibleCount := 0, recoveryCount := 0, offerUp := 0, offerDown := 0, upShare := 0
                downShare := 0, shortUp := false, shortDown := false, response := 0
                edgeTimeout := if structuralError image = none then some 50000 else none
                state :=
                  if structuralError image = none ∧ (w.role = .meter ∨ (w.upcommit = 0 ∧ w.dncommit = 0)) then .disabled
                  else .starting }
          ∧ t.composer =
              { ramped := 0, target := 0, upperClamp := 0, lowerClamp := 0, output := 0, residue := 0, demand := 0
                mode := .standby, converter := none, draw := 0, temperature := none, derateIndex := 0
                derateFactor := if structuralError image = none ∧ w.role = .post then w.derate.getD 0 0 else 0
                pderated :=
                  if structuralError image = none ∧ w.role = .post then w.prated * w.derate.getD 0 0 / 256 else 0
                settle := 0, idleTimer := 0, wakeTimer := none, timedOut := false, silentCount := 0
                feederSample := none, tx := [] }
          ∧ t.tracker = { Tracker.reset with
              readiness := if links then .linking else .vacant, record := s.tracker.record }
          ∧ t.vehicle = { s.vehicle with
              sessionOpen := links, vehicleId := none, lastStatus := none, helloTimer := none, watchdog := none
              helloCount := if links then 1 else 0
              session := if links then session else s.vehicle.session
              waiting := stops ++ (if links then [.hello session w.station w.prated] else [])
              loopResult := .none, loopIndex := 0, loopErrors := 0, loopWindow := none }
          ∧ (t.link.sequence = none ∧ t.link.announceTimer = none ∧ t.link.announceHand = none
            ∧ t.link.shedHand = none ∧ t.link.shedBehind = none ∧ t.link.transmitting = none
            ∧ t.link.idleTime = (if s.link.transmitting = none then s.link.idleTime else 0)
            ∧ t.link.receiver = (if s.link.transmitting = none then
                (match s.link.receiver with
                  | .deaf quiet => .deaf (min quiet 40)
                  | .hearing => .deaf 40
                  | .ending => .deaf 40)
              else .deaf 0)
            ∧ t.link.receiveBuffer = [] ∧ t.link.goodFrames = s.link.goodFrames
            ∧ t.link.crcErrors = s.link.crcErrors ∧ t.link.malformed = s.link.malformed
            ∧ t.link.collisions = s.link.collisions ∧ t.link.dropped = s.link.dropped)
          ∧ (∀ e, structuralError image = some e →
              t.link.station = .unconfigured ∧ t.link.listenTimer = none
              ∧ t.store = { s.store with
                  shadow := image, working := none, clamped := false, loadResult := e, writebackPage := 0 })
          ∧ (structuralError image = none →
              t.link.station = .listening ∧ t.link.listenTimer = some (w.ksil * (w.tann * 10) * 1000)
              ∧ t.store = { s.store with
                  shadow := image, working := some w, clamped := decide (w ≠ storedCopy image)
                  loadResult := (if w ≠ storedCopy image then .loadedClamped else .loaded), writebackPage := 0 })
          ∧ unchangedExcept
              [.vehicle, .tracker, .account, .link, .peers, .share, .reserve, .composer, .store, .service] s t)

/-- The attention line and the response buffer: ATTN_READ returns the pending set, empties it and disarms; ATTN_REARM
arms; a read transfer clocks out the response frame and empties the buffer, or FF and then 00 for an empty one; a
request transfer that fails a check is answered REFUSED and has no effect; and one that passes every check is the
request it spells, each of the eight, the part clocking out 00 for as many bytes as the transfer has (10.1, 10.2, 10.9;
that bytes after the CRC are not read is assumption 6, and that such a transfer brought by SERVICE_REQUEST_INVALID is
the request it spells assumption 16). -/
def Obligations.AttentionAndTransfers : Prop :=
  ∀ s : State,
    (∃ t, exec .attnRead s = .next t
      ∧ t.service =
          { pendingCauses := 0, armed := false, tx := [0, 0, 0, 0]
            response := some
              { status := .ok
                data := [s.service.pendingCauses.setWidth 8, (s.service.pendingCauses >>> 8).setWidth 8] } }
      ∧ t.attention = false ∧ unchangedExcept [.service] s t)
    ∧ (∃ t, exec .attnRearm s = .next t
      ∧ t.service =
          { s.service with armed := true, tx := [0, 0, 0, 0], response := some { status := .ok, data := [] } }
      ∧ t.attention = decide (s.service.pendingCauses
          &&& s.store.working.elim (BitVec.allOnes 12) (fun w => w.mask.setWidth 12) ≠ 0)
      ∧ unchangedExcept [.service] s t)
    ∧ (∀ clocked, ∃ t, exec (.readTransfer clocked) s = .next t
      ∧ t.service = { s.service with response := none, tx := t.service.tx }
      ∧ t.service.tx.length = clocked
      ∧ (s.service.response = none → t.service.tx = (0xFF :: List.replicate clocked 0).take clocked)
      ∧ (∀ r ∈ s.service.response, ∀ code head, clocked ≤ r.data.length + 4 → r.data.length ≤ 255 →
          (r.status, code) ∈
            [(Status.ok, (0 : Byte)), (.busy, 1), (.refused, 2), (.protectedPage, 3), (.rangeError, 4)] →
          head = code :: BitVec.ofNat 8 r.data.length :: r.data →
          t.service.tx = (head ++ bytesOfWord (crc16 head)).take clocked)
      ∧ unchangedExcept [.service, .freeDraws] s t)
    ∧ (∀ frame, (frame.length < 4 ∨ (∃ code n rest, frame = code :: n :: rest ∧
          (rest.length < n.toNat + 2
          ∨ bytesOfWord (crc16 (code :: n :: rest.take n.toNat)) ≠ (rest.drop n.toNat).take 2
          ∨ code = 0 ∨ 8 < code.toNat ∨ (code = 1 ∧ n ≠ 2) ∨ (code = 2 ∧ n = 0)
          ∨ (3 ≤ code.toNat ∧ n ≠ 0)))) →
      ∃ t, exec (.serviceRequestInvalid frame) s = .next t
        ∧ t.service = { s.service with
            response := some { status := .refused, data := [] }, tx := List.replicate frame.length 0 }
        ∧ unchangedExcept [.service] s t)
    ∧ (∀ (c : Instr) (code : Byte) (params head extra frame : List Byte),
      ((∃ item index, c = .readItem item index ∧ code = 1 ∧ params = [item, index])
        ∨ (∃ offset data, c = .writeShadow offset data ∧ code = 2 ∧ params = offset :: data)
        ∨ (c = .writeback ∧ code = 3 ∧ params = []) ∨ (c = .restart ∧ code = 4 ∧ params = [])
        ∨ (c = .looptestStart ∧ code = 5 ∧ params = []) ∨ (c = .looptestStop ∧ code = 6 ∧ params = [])
        ∨ (c = .attnRead ∧ code = 7 ∧ params = []) ∨ (c = .attnRearm ∧ code = 8 ∧ params = [])) →
      params.length ≤ 255 → head = code :: BitVec.ofNat 8 params.length :: params →
      frame = head ++ bytesOfWord (crc16 head) ++ extra →
      ∃ t u, exec c s = .next t ∧ exec (.serviceRequestInvalid frame) s = .next u
        ∧ u.service = { t.service with tx := List.replicate frame.length 0 }
        ∧ unchangedExcept [.service] t u)

/-! ## Encodings and invariants -/

/-- The CRC-16 takes the bits of each byte most significant first from FFFF hex, with generator x^16 + x^12 + x^5 + 1
and no inversion, and follows the bytes low byte first; the received frames are laid out as 10.5 to 10.7 give. Reading
what was written gives it back: a received string of characters has a right CRC exactly when it is a sealed frame, and
every frame of 10.5 to 10.7 and 10.9 that the part receives, with every field at every value the format admits, is read
as itself and taken as its own command, whichever command brings it; a power stage frame with a bad CRC, a kind other
than 32 hex or a payload of other than four bytes is discarded (8.2). That each is taken whichever command brings it is
the model's choice (assumption 16; that FEEDER_SAMPLE and REPORT_RECEIVED both take a REPORT by the role is assumption
17, and that a running loop test takes a frame whichever of VEHICLE_FRAME_DISCARDED and TEST_FRAME_RETURN brings it
assumption 18). -/
def Obligations.FramesReadBack : Prop :=
  (∀ (crc : Word) (bits : List Bool) (bytes : List Byte) (register : Nat → Word),
    crc = crc16 bytes → bits = bytes.flatMap (fun b => (List.range 8).map fun i => b.getLsbD (7 - i)) →
    register 0 = 0xFFFF#16 →
    (∀ i, register (i + 1) =
      if (register i).getLsbD 15 ^^ bits.getD i false then (register i <<< 1) ^^^ 0x1021#16 else register i <<< 1) →
    crc = register bits.length)
  ∧ (∀ w : Word, bytesOfWord w = [BitVec.ofNat 8 w.toNat, BitVec.ofNat 8 (w.toNat / 256)])
  ∧ (∀ bytes, sealFrame bytes = bytes ++ bytesOfWord (crc16 bytes))
  ∧ (∀ f : WireAnnounce, announceFrame f = sealFrame ([0x01, f.station, f.role, f.flags, f.readiness, f.urgency]
      ++ [f.claim, f.held, f.draw, f.offerUp, f.offerDown, f.dischargeOffer, f.lendable, f.feederLoad].flatMap
        bytesOfWord))
  ∧ (∀ f : WireShed, shedFrame f = sealFrame ([0x02, f.station] ++ bytesOfWord f.fraction))
  ∧ (∀ (card : WireCard) (run : List Byte),
      run = bytesOfWord card.departure ++ bytesOfWord card.eroute ++ [card.conditioningPresent]
        ++ bytesOfWord card.pcond ++ [card.tcond] →
      cardFrame card = sealFrame (0x23 :: run) ∧ ∀ id, identFrame id card = sealFrame (0x21 :: id.toList ++ run))
  ∧ (∀ k : WireStatus, statusFrame k = sealFrame (0x22 :: [k.eveh, k.ecap, k.pvmax, k.pvdis].flatMap bytesOfWord
      ++ [k.flags, k.echo]))
  ∧ (∀ r : WireReport, reportFrame r = sealFrame (0x32 :: bytesOfWord r.power ++ [r.state, r.temperature]))
  ∧ (∀ frame bytes, unsealFrame frame = some bytes ↔ bytes ≠ [] ∧ frame = sealFrame bytes)
  ∧ (∀ id card, backFrameOf (identFrame id card) = .ident id card)
  ∧ (∀ status, backFrameOf (statusFrame status) = .status status)
  ∧ (∀ card, backFrameOf (cardFrame card) = .card card)
  ∧ (∀ i, backFrameOf (testFrame i) = .test)
  ∧ (∀ report, reportOf (reportFrame report) = some report)
  ∧ (∀ f : WireAnnounce, 1 ≤ f.station.toNat → f.station.toNat ≤ 32 → (f.role = 1 ∨ f.role = 2) →
      receptionOf (announceFrame f) = .announce f)
  ∧ (∀ f : WireShed, 1 ≤ f.station.toNat → f.station.toNat ≤ 32 → 1 ≤ f.fraction.toNat → f.fraction.toNat ≤ 1024 →
      receptionOf (shedFrame f) = .shed f)
  ∧ (∀ item index, requestOf (sealFrame [1, 2, item, index]) = some (.readItem item index))
  ∧ (∀ offset data, data.length ≤ 254 →
      requestOf (sealFrame (2 :: BitVec.ofNat 8 (data.length + 1) :: offset :: data)) = some (.writeShadow offset data))
  ∧ requestOf (sealFrame [3, 0]) = some .writeback ∧ requestOf (sealFrame [4, 0]) = some .restart
  ∧ requestOf (sealFrame [5, 0]) = some .looptestStart ∧ requestOf (sealFrame [6, 0]) = some .looptestStop
  ∧ requestOf (sealFrame [7, 0]) = some .attnRead ∧ requestOf (sealFrame [8, 0]) = some .attnRearm
  ∧ (∀ (s : State) id card status report fresh f g item index offset data,
      (∀ carrier : List Byte → Instr, (carrier = .vehicleFrameDiscarded ∨ carrier = .testFrameReturn) →
        exec (carrier (identFrame id card)) s = exec (.identReceived id card) s
        ∧ exec (carrier (statusFrame status)) s = exec (.statusReceived status) s
        ∧ exec (carrier (cardFrame card)) s = exec (.cardReceived card) s)
      ∧ (∀ frame, exec (.vehicleFrameDiscarded frame) s = exec (.testFrameReturn frame) s)
      ∧ exec (.stageFrameDiscarded (reportFrame report)) s = exec (.reportReceived report) s
      ∧ exec (.feederSample report) s = exec (.reportReceived report) s
      ∧ (s.link.receiveBuffer = [] →
          exec (.receptionEnd ⟨fresh, announceFrame f⟩) s = exec (.announceReceived ⟨fresh, f⟩) s
          ∧ exec (.receptionEnd ⟨fresh, shedFrame g⟩) s = exec (.shedReceived ⟨fresh, g⟩) s)
      ∧ exec (.serviceRequestInvalid (sealFrame [1, 2, item, index])) s = exec (.readItem item index) s
      ∧ (data.length ≤ 254 →
          exec (.serviceRequestInvalid (sealFrame (2 :: BitVec.ofNat 8 (data.length + 1) :: offset :: data))) s
            = exec (.writeShadow offset data) s)
      ∧ exec (.serviceRequestInvalid (sealFrame [3, 0])) s = exec .writeback s
      ∧ exec (.serviceRequestInvalid (sealFrame [4, 0])) s = exec .restart s
      ∧ exec (.serviceRequestInvalid (sealFrame [5, 0])) s = exec .looptestStart s
      ∧ exec (.serviceRequestInvalid (sealFrame [6, 0])) s = exec .looptestStop s
      ∧ exec (.serviceRequestInvalid (sealFrame [7, 0])) s = exec .attnRead s
      ∧ exec (.serviceRequestInvalid (sealFrame [8, 0])) s = exec .attnRearm s)
  ∧ (∀ (s : State) frame,
      (reportOf frame = none
        ∨ frame.length < 3 ∨ frame.drop (frame.length - 2) ≠ bytesOfWord (crc16 (frame.take (frame.length - 2)))
        ∨ (∃ kind payload, frame = kind :: payload ++ bytesOfWord (crc16 (kind :: payload))
          ∧ (kind ≠ 0x32 ∨ payload.length ≠ 4))) →
      exec (.stageFrameDiscarded frame) s = .next s)

/-- After a start reset every invariant holds. -/
def Obligations.ResetIsSound : Prop := State.reset.Sound

/-- Every step from a sound state keeps the configuration, the memory, the sessions and the energy account sound: L, the
gate and the offer follow their inputs at every event (3.4, 3.5). That the HELLO reply timer runs in LINKING alone (1.3)
is assumption 12. -/
def Obligations.StepKeepsSessionsSound : Prop :=
  ∀ s t : State, s.Sound → step s = .next t →
    t.Configured ∧ t.MemoryCanonical ∧ t.SessionSound ∧ t.AccountSound

/-- Every step from a sound state keeps the depot link, the peer table, the share engine, the reserve unit and the
composer sound. That an age may stand at T_sil until its removal is taken is assumption 3, the idle time and the
receiver of the line are assumptions 26 and 27, how long a STAGE_TIMEOUT found stands is assumption 38, and that a post
gives up a feeder sample at its entry to LISTENING assumption 40. -/
def Obligations.StepKeepsSharingSound : Prop :=
  ∀ s t : State, s.Sound → step s = .next t →
    t.LinkSound ∧ t.TableSound ∧ t.ShareSound ∧ t.ReserveSound ∧ t.ComposerSound

/-- Promises of the whole part: the allowance rises only at an allocation, when the transmission of an own ANNOUNCE is
complete or a collision drops it after its fourth attempt; a pending attention cause is cleared only by ATTN_READ, a
restart or a start reset; the working copy changes only at a load, a restart or a start reset; the external memory
changes only under a write-back; and the link counters fall only at a start reset. -/
def Obligations.OnlyTheNamedEventsChangeThese : Prop :=
  ∀ (c : Instr) (s t : State), exec c s = .next t →
    (s.share.allowance < t.share.allowance →
        s.link.transmitting = some .announce
        ∧ (c = .transmissionComplete
          ∨ (c = .collision ∧ ∃ h, s.link.announceHand = some h ∧ 4 ≤ h.attempts)))
    ∧ (s.service.pendingCauses &&& ~~~t.service.pendingCauses ≠ 0 →
        c = .attnRead ∨ c = .restart ∨ c = .startReset
          ∨ ∃ frame, c = .serviceRequestInvalid frame
              ∧ (requestOf frame = some .attnRead ∨ requestOf frame = some .restart))
    ∧ (t.store.working ≠ s.store.working →
        c = .startReset ∨ c = .loadComplete ∨ (∃ n, c = .configMemoryTimeout n) ∨ c = .restart
          ∨ ∃ frame, c = .serviceRequestInvalid frame ∧ requestOf frame = some .restart)
    ∧ (t.store.memory ≠ s.store.memory → s.store.writebackRunning = true
        ∧ (c = .startReset ∨ (∃ n, c = .configMemoryTimeout n) ∨ ∃ page, c = .writebackPageDone page))
    ∧ ((t.link.goodFrames < s.link.goodFrames ∨ t.link.crcErrors < s.link.crcErrors
          ∨ t.link.malformed < s.link.malformed ∨ t.link.collisions < s.link.collisions
          ∨ t.link.dropped < s.link.dropped) → c = .startReset)
end

