-- ==== Sys2Proof/Laws/Memory.lean ====
section
/-! SUPPORT. The configuration memory: every operation keeps the canonical form, a byte just written reads back, and
every other byte reads as before. -/

namespace Sys2Proof.Machine

/-! ## The canonical form -/

/-- Every listed address lies above a bound. -/
def Mem.above (n : Nat) (m : Mem) : Prop := ∀ c ∈ m, n < c.1

theorem Mem.wf_cons {c : Host.Cell} {m : Mem} :
    Mem.wf (c :: m) = true ↔ c.2 ≠ 0 ∧ Mem.above c.1 m ∧ Mem.wf m = true := by
  induction m generalizing c with
  | nil => simp [Mem.wf, Mem.above]
  | cons d rest ih =>
    have hrest := @ih d
    simp only [Mem.wf, Mem.above, Bool.and_eq_true, bne_iff_ne, ne_eq, decide_eq_true_eq, List.mem_cons,
      forall_eq_or_imp] at hrest ⊢
    constructor
    · rintro ⟨⟨hc, hlt⟩, hwf⟩
      exact ⟨hc, ⟨hlt, fun x hx => Nat.lt_trans hlt ((hrest.mp hwf).2.1 x hx)⟩, hwf⟩
    · rintro ⟨hc, ⟨hlt, -⟩, hwf⟩
      exact ⟨⟨hc, hlt⟩, hwf⟩

theorem Mem.wf_nil : Mem.wf [] = true := rfl

/-- Below every listed address a byte reads as 0. -/
theorem readByte_above {n a : Nat} {m : Mem} (h : Mem.above n m) (ha : a ≤ n) : readByte m a = 0 := by
  induction m with
  | nil => rfl
  | cons c rest ih =>
    obtain ⟨k, b⟩ := c
    have hk : n < k := h (k, b) (by simp)
    have : k ≠ a := by omega
    simp only [readByte, this, if_false]
    exact ih fun x hx => h x (by simp [hx])

/-! ## Writing one byte -/

theorem writeByte_above {n a : Nat} {v : Byte} {m : Mem} (h : Mem.above n m) (ha : n < a) :
    Mem.above n (writeByte m a v) := by
  induction m with
  | nil =>
    intro x hx
    simp only [writeByte] at hx
    split at hx <;> simp_all
  | cons c rest ih =>
    obtain ⟨k, b⟩ := c
    have hk : n < k := h (k, b) (by simp)
    have hrest : Mem.above n rest := fun x hx => h x (by simp [hx])
    intro x hx
    simp only [writeByte] at hx
    split at hx
    · rcases List.mem_cons.mp hx with rfl | hx
      · exact hk
      · exact ih hrest x hx
    · split at hx
      · split at hx
        · exact hrest x hx
        · rcases List.mem_cons.mp hx with rfl | hx
          · exact ha
          · exact hrest x hx
      · split at hx
        · exact h x hx
        · rcases List.mem_cons.mp hx with rfl | hx
          · exact ha
          · exact h x hx

/-- A write keeps the canonical form. -/
theorem writeByte_wf {m : Mem} (a : Nat) (v : Byte) (h : Mem.wf m = true) : Mem.wf (writeByte m a v) = true := by
  induction m with
  | nil =>
    simp only [writeByte]
    split <;> simp_all [Mem.wf]
  | cons c rest ih =>
    obtain ⟨k, b⟩ := c
    obtain ⟨hb, habove, hrest⟩ := Mem.wf_cons.mp h
    simp only at hb habove
    simp only [writeByte]
    split
    · rename_i hlt
      exact Mem.wf_cons.mpr ⟨hb, writeByte_above habove hlt, ih hrest⟩
    · split
      · rename_i hge heq
        subst heq
        split
        · exact hrest
        · rename_i hv
          exact Mem.wf_cons.mpr ⟨hv, habove, hrest⟩
      · rename_i hge hne
        split
        · exact h
        · rename_i hv
          refine Mem.wf_cons.mpr ⟨hv, ?_, h⟩
          intro x hx
          rcases List.mem_cons.mp hx with rfl | hx
          · show a < k
            omega
          · have hx' : k < x.1 := habove x hx
            show a < x.1
            omega

/-- Reading after a write: the written byte at its address, every other byte as before. -/
theorem readByte_writeByte {m : Mem} (a b : Nat) (v : Byte) (h : Mem.wf m = true) :
    readByte (writeByte m a v) b = if b = a then v else readByte m b := by
  induction m with
  | nil =>
    simp only [writeByte]
    by_cases hv : v = 0
    · rw [if_pos hv, hv]
      split <;> rfl
    · rw [if_neg hv]
      simp only [readByte, eq_comm]
  | cons c rest ih =>
    obtain ⟨k, w⟩ := c
    obtain ⟨-, habove, hrest⟩ := Mem.wf_cons.mp h
    simp only at habove
    simp only [writeByte]
    split
    · rename_i hlt
      simp only [readByte]
      split
      · rename_i hkb
        subst hkb
        rw [if_neg (by omega)]
      · exact ih hrest
    · split
      · rename_i hge heq
        subst heq
        split
        · rename_i hv
          subst hv
          by_cases hb : b = k
          · subst hb
            simpa using readByte_above habove (Nat.le_refl _)
          · rw [if_neg hb, readByte, if_neg (fun hk => hb hk.symm)]
        · simp only [readByte]
          by_cases hb : b = k
          · subst hb; simp
          · rw [if_neg (fun hk => hb hk.symm), if_neg hb, if_neg (fun hk => hb hk.symm)]
      · rename_i hge hne
        split
        · rename_i hv
          subst hv
          by_cases hb : b = a
          · subst hb
            rw [if_pos rfl, readByte, if_neg (fun hk => hne hk)]
            exact readByte_above habove (by omega)
          · rw [if_neg hb]
        · simp only [readByte]
          by_cases hb : b = a
          · subst hb; simp
          · rw [if_neg (fun hk => hb hk.symm), if_neg hb]

/-! ## Writing several bytes -/

theorem writeBytes_wf (m : Mem) (a : Nat) (bytes : List Byte) (h : Mem.wf m = true) :
    Mem.wf (writeBytes m a bytes) = true := by
  induction bytes generalizing m a with
  | nil => exact h
  | cons b rest ih => exact ih _ _ (writeByte_wf a b h)

/-- Reading after a write of several bytes: the bytes written in their place, every other byte as before. -/
theorem readByte_writeBytes (m : Mem) (a : Nat) (bytes : List Byte) (b : Nat) (h : Mem.wf m = true) :
    readByte (writeBytes m a bytes) b =
      if a ≤ b ∧ b < a + bytes.length then bytes.getD (b - a) 0 else readByte m b := by
  induction bytes generalizing m a with
  | nil =>
    rw [writeBytes, if_neg]
    simp only [List.length_nil]
    omega
  | cons x rest ih =>
    rw [writeBytes, ih _ _ (writeByte_wf a x h), readByte_writeByte a b x h]
    simp only [List.length_cons]
    by_cases hba : b = a
    · subst hba
      rw [if_neg (by omega), if_pos rfl, if_pos (by omega)]
      simp
    · by_cases hin : a ≤ b ∧ b < a + (rest.length + 1)
      · rw [if_pos (by omega), if_pos hin]
        obtain ⟨d, rfl⟩ : ∃ d, b = a + 1 + d := ⟨b - a - 1, by omega⟩
        have h1 : a + 1 + d - (a + 1) = d := by omega
        have h2 : a + 1 + d - a = d + 1 := by omega
        rw [h1, h2]
        simp
      · rw [if_neg (by omega), if_neg hba, if_neg hin]

/-! ## The bytes below a bound -/

theorem below_above {n k : Nat} {m : Mem} (h : Mem.above k m) : Mem.above k (below n m) :=
  fun x hx => h x (List.mem_filter.mp hx).1

theorem below_wf (n : Nat) {m : Mem} (h : Mem.wf m = true) : Mem.wf (below n m) = true := by
  induction m with
  | nil => rfl
  | cons c rest ih =>
    obtain ⟨hc, habove, hrest⟩ := Mem.wf_cons.mp h
    unfold below
    rw [List.filter_cons]
    split
    · exact Mem.wf_cons.mpr ⟨hc, below_above habove, ih hrest⟩
    · exact ih hrest

theorem below_bounded (n : Nat) (m : Mem) : ∀ c ∈ below n m, c.1 < n := by
  intro c hc
  simpa [below] using (List.mem_filter.mp hc).2

/-- Below the bound a byte reads as before, and from the bound on as 0. -/
theorem readByte_below (n a : Nat) (m : Mem) : readByte (below n m) a = if a < n then readByte m a else 0 := by
  induction m with
  | nil => simp [below, readByte]
  | cons c rest ih =>
    obtain ⟨k, b⟩ := c
    unfold below at ih ⊢
    rw [List.filter_cons]
    split
    · rename_i hk
      simp only [decide_eq_true_eq] at hk
      simp only [readByte]
      by_cases hka : k = a
      · subst hka; simp [hk]
      · rw [if_neg hka, if_neg hka, ih]
    · rename_i hk
      simp only [decide_eq_true_eq] at hk
      rw [ih]
      by_cases ha : a < n
      · rw [if_pos ha, if_pos ha, readByte, if_neg (by omega)]
      · rw [if_neg ha, if_neg ha]

/-! ## The operations of the store -/

theorem withImageCrc_wf {m : Mem} (h : Mem.wf m = true) : Mem.wf (withImageCrc m) = true := writeBytes_wf _ _ _ h

theorem tornPage_wf (draw page : Nat) (shadow : Mem) {m : Mem} (h : Mem.wf m = true) :
    Mem.wf (tornPage draw page shadow m) = true :=
  writeBytes_wf _ _ _ h

/-- Outside the page that was being written a torn page leaves every byte. -/
theorem readByte_tornPage (draw page a : Nat) (shadow : Mem) {m : Mem} (h : Mem.wf m = true)
    (ha : a < 16 * page ∨ 16 * page + 16 ≤ a) : readByte (tornPage draw page shadow m) a = readByte m a := by
  rw [tornPage, readByte_writeBytes _ _ _ _ h, if_neg]
  simp only [List.length_map, List.length_range]
  omega

/-- Every byte of the memory with a torn page is the old one or the shadow's (R174, R175). -/
theorem readByte_tornPage_mixture (draw page a : Nat) (shadow : Mem) {m : Mem} (h : Mem.wf m = true) :
    readByte (tornPage draw page shadow m) a = readByte shadow a
      ∨ readByte (tornPage draw page shadow m) a = readByte m a := by
  by_cases ha : a < 16 * page ∨ 16 * page + 16 ≤ a
  · exact .inr (readByte_tornPage draw page a shadow h ha)
  · obtain ⟨k, rfl, hk⟩ : ∃ k, a = 16 * page + k ∧ k < 16 := ⟨a - 16 * page, by omega, by omega⟩
    have hb : readByte (tornPage draw page shadow m) (16 * page + k) = tornByte draw page shadow m k := by
      rw [tornPage, readByte_writeBytes _ _ _ _ h, if_pos ⟨by omega, by simpa using hk⟩]
      simp [hk]
    rw [hb, tornByte]
    split <;> simp

/-- After a start reset nothing is listed, and the form holds. -/
theorem reset_memory_wf : Mem.wf State.reset.store.memory = true ∧ Mem.wf State.reset.store.shadow = true :=
  ⟨rfl, rfl⟩

theorem writeByte_bounded {n a : Nat} {v : Byte} {m : Mem} (h : ∀ c ∈ m, c.1 < n) (ha : a < n) :
    ∀ c ∈ writeByte m a v, c.1 < n := by
  induction m with
  | nil =>
    intro x hx
    simp only [writeByte] at hx
    split at hx <;> simp_all
  | cons d rest ih =>
    obtain ⟨k, b⟩ := d
    have hk : k < n := h (k, b) (by simp)
    have hrest : ∀ c ∈ rest, c.1 < n := fun x hx => h x (by simp [hx])
    intro x hx
    simp only [writeByte] at hx
    split at hx
    · rcases List.mem_cons.mp hx with rfl | hx
      · exact hk
      · exact ih hrest x hx
    · split at hx
      · split at hx
        · exact hrest x hx
        · rcases List.mem_cons.mp hx with rfl | hx
          · exact ha
          · exact hrest x hx
      · split at hx
        · exact h x hx
        · rcases List.mem_cons.mp hx with rfl | hx
          · exact ha
          · exact h x hx

/-- Writing within a bound lists nothing beyond it. -/
theorem writeBytes_bounded {n : Nat} (m : Mem) (a : Nat) (bytes : List Byte) (h : ∀ c ∈ m, c.1 < n)
    (ha : a + bytes.length ≤ n) : ∀ c ∈ writeBytes m a bytes, c.1 < n := by
  induction bytes generalizing m a with
  | nil => exact h
  | cons b rest ih =>
    simp only [List.length_cons] at ha
    exact ih _ _ (writeByte_bounded h (by omega)) (by omega)

end Sys2Proof.Machine
end

