-- ==== Sys2Proof/Laws/State.lean ====
section
/-! SUPPORT. One lemma for each field under each block update. -/

namespace Sys2Proof.Machine

@[simp] theorem State.setVehicle_vehicle (s : State) (x : VehicleLine) : (s.setVehicle x).vehicle = x := rfl
@[simp] theorem State.setVehicle_tracker (s : State) (x : VehicleLine) : (s.setVehicle x).tracker = s.tracker := rfl
@[simp] theorem State.setVehicle_account (s : State) (x : VehicleLine) : (s.setVehicle x).account = s.account := rfl
@[simp] theorem State.setVehicle_link (s : State) (x : VehicleLine) : (s.setVehicle x).link = s.link := rfl
@[simp] theorem State.setVehicle_peers (s : State) (x : VehicleLine) : (s.setVehicle x).peers = s.peers := rfl
@[simp] theorem State.setVehicle_share (s : State) (x : VehicleLine) : (s.setVehicle x).share = s.share := rfl
@[simp] theorem State.setVehicle_reserve (s : State) (x : VehicleLine) : (s.setVehicle x).reserve = s.reserve := rfl
@[simp] theorem State.setVehicle_composer (s : State) (x : VehicleLine) : (s.setVehicle x).composer = s.composer := rfl
@[simp] theorem State.setVehicle_store (s : State) (x : VehicleLine) : (s.setVehicle x).store = s.store := rfl
@[simp] theorem State.setVehicle_service (s : State) (x : VehicleLine) : (s.setVehicle x).service = s.service := rfl
@[simp] theorem State.setVehicle_clock (s : State) (x : VehicleLine) : (s.setVehicle x).clock = s.clock := rfl
@[simp] theorem State.setVehicle_freeDraws (s : State) (x : VehicleLine) : (s.setVehicle x).freeDraws = s.freeDraws := rfl
@[simp] theorem State.setVehicle_pending (s : State) (x : VehicleLine) : (s.setVehicle x).pending = s.pending := rfl
@[simp] theorem State.setVehicle_self (s : State) : s.setVehicle s.vehicle = s := rfl
@[simp] theorem State.setVehicle_twice (s : State) (x y : VehicleLine) : (s.setVehicle x).setVehicle y = s.setVehicle y := rfl

@[simp] theorem State.setTracker_vehicle (s : State) (x : Tracker) : (s.setTracker x).vehicle = s.vehicle := rfl
@[simp] theorem State.setTracker_tracker (s : State) (x : Tracker) : (s.setTracker x).tracker = x := rfl
@[simp] theorem State.setTracker_account (s : State) (x : Tracker) : (s.setTracker x).account = s.account := rfl
@[simp] theorem State.setTracker_link (s : State) (x : Tracker) : (s.setTracker x).link = s.link := rfl
@[simp] theorem State.setTracker_peers (s : State) (x : Tracker) : (s.setTracker x).peers = s.peers := rfl
@[simp] theorem State.setTracker_share (s : State) (x : Tracker) : (s.setTracker x).share = s.share := rfl
@[simp] theorem State.setTracker_reserve (s : State) (x : Tracker) : (s.setTracker x).reserve = s.reserve := rfl
@[simp] theorem State.setTracker_composer (s : State) (x : Tracker) : (s.setTracker x).composer = s.composer := rfl
@[simp] theorem State.setTracker_store (s : State) (x : Tracker) : (s.setTracker x).store = s.store := rfl
@[simp] theorem State.setTracker_service (s : State) (x : Tracker) : (s.setTracker x).service = s.service := rfl
@[simp] theorem State.setTracker_clock (s : State) (x : Tracker) : (s.setTracker x).clock = s.clock := rfl
@[simp] theorem State.setTracker_freeDraws (s : State) (x : Tracker) : (s.setTracker x).freeDraws = s.freeDraws := rfl
@[simp] theorem State.setTracker_pending (s : State) (x : Tracker) : (s.setTracker x).pending = s.pending := rfl
@[simp] theorem State.setTracker_self (s : State) : s.setTracker s.tracker = s := rfl
@[simp] theorem State.setTracker_twice (s : State) (x y : Tracker) : (s.setTracker x).setTracker y = s.setTracker y := rfl

@[simp] theorem State.setAccount_vehicle (s : State) (x : Account) : (s.setAccount x).vehicle = s.vehicle := rfl
@[simp] theorem State.setAccount_tracker (s : State) (x : Account) : (s.setAccount x).tracker = s.tracker := rfl
@[simp] theorem State.setAccount_account (s : State) (x : Account) : (s.setAccount x).account = x := rfl
@[simp] theorem State.setAccount_link (s : State) (x : Account) : (s.setAccount x).link = s.link := rfl
@[simp] theorem State.setAccount_peers (s : State) (x : Account) : (s.setAccount x).peers = s.peers := rfl
@[simp] theorem State.setAccount_share (s : State) (x : Account) : (s.setAccount x).share = s.share := rfl
@[simp] theorem State.setAccount_reserve (s : State) (x : Account) : (s.setAccount x).reserve = s.reserve := rfl
@[simp] theorem State.setAccount_composer (s : State) (x : Account) : (s.setAccount x).composer = s.composer := rfl
@[simp] theorem State.setAccount_store (s : State) (x : Account) : (s.setAccount x).store = s.store := rfl
@[simp] theorem State.setAccount_service (s : State) (x : Account) : (s.setAccount x).service = s.service := rfl
@[simp] theorem State.setAccount_clock (s : State) (x : Account) : (s.setAccount x).clock = s.clock := rfl
@[simp] theorem State.setAccount_freeDraws (s : State) (x : Account) : (s.setAccount x).freeDraws = s.freeDraws := rfl
@[simp] theorem State.setAccount_pending (s : State) (x : Account) : (s.setAccount x).pending = s.pending := rfl
@[simp] theorem State.setAccount_self (s : State) : s.setAccount s.account = s := rfl
@[simp] theorem State.setAccount_twice (s : State) (x y : Account) : (s.setAccount x).setAccount y = s.setAccount y := rfl

@[simp] theorem State.setLink_vehicle (s : State) (x : Link) : (s.setLink x).vehicle = s.vehicle := rfl
@[simp] theorem State.setLink_tracker (s : State) (x : Link) : (s.setLink x).tracker = s.tracker := rfl
@[simp] theorem State.setLink_account (s : State) (x : Link) : (s.setLink x).account = s.account := rfl
@[simp] theorem State.setLink_link (s : State) (x : Link) : (s.setLink x).link = x := rfl
@[simp] theorem State.setLink_peers (s : State) (x : Link) : (s.setLink x).peers = s.peers := rfl
@[simp] theorem State.setLink_share (s : State) (x : Link) : (s.setLink x).share = s.share := rfl
@[simp] theorem State.setLink_reserve (s : State) (x : Link) : (s.setLink x).reserve = s.reserve := rfl
@[simp] theorem State.setLink_composer (s : State) (x : Link) : (s.setLink x).composer = s.composer := rfl
@[simp] theorem State.setLink_store (s : State) (x : Link) : (s.setLink x).store = s.store := rfl
@[simp] theorem State.setLink_service (s : State) (x : Link) : (s.setLink x).service = s.service := rfl
@[simp] theorem State.setLink_clock (s : State) (x : Link) : (s.setLink x).clock = s.clock := rfl
@[simp] theorem State.setLink_freeDraws (s : State) (x : Link) : (s.setLink x).freeDraws = s.freeDraws := rfl
@[simp] theorem State.setLink_pending (s : State) (x : Link) : (s.setLink x).pending = s.pending := rfl
@[simp] theorem State.setLink_self (s : State) : s.setLink s.link = s := rfl
@[simp] theorem State.setLink_twice (s : State) (x y : Link) : (s.setLink x).setLink y = s.setLink y := rfl

@[simp] theorem State.setPeers_vehicle (s : State) (x : PeerTable) : (s.setPeers x).vehicle = s.vehicle := rfl
@[simp] theorem State.setPeers_tracker (s : State) (x : PeerTable) : (s.setPeers x).tracker = s.tracker := rfl
@[simp] theorem State.setPeers_account (s : State) (x : PeerTable) : (s.setPeers x).account = s.account := rfl
@[simp] theorem State.setPeers_link (s : State) (x : PeerTable) : (s.setPeers x).link = s.link := rfl
@[simp] theorem State.setPeers_peers (s : State) (x : PeerTable) : (s.setPeers x).peers = x := rfl
@[simp] theorem State.setPeers_share (s : State) (x : PeerTable) : (s.setPeers x).share = s.share := rfl
@[simp] theorem State.setPeers_reserve (s : State) (x : PeerTable) : (s.setPeers x).reserve = s.reserve := rfl
@[simp] theorem State.setPeers_composer (s : State) (x : PeerTable) : (s.setPeers x).composer = s.composer := rfl
@[simp] theorem State.setPeers_store (s : State) (x : PeerTable) : (s.setPeers x).store = s.store := rfl
@[simp] theorem State.setPeers_service (s : State) (x : PeerTable) : (s.setPeers x).service = s.service := rfl
@[simp] theorem State.setPeers_clock (s : State) (x : PeerTable) : (s.setPeers x).clock = s.clock := rfl
@[simp] theorem State.setPeers_freeDraws (s : State) (x : PeerTable) : (s.setPeers x).freeDraws = s.freeDraws := rfl
@[simp] theorem State.setPeers_pending (s : State) (x : PeerTable) : (s.setPeers x).pending = s.pending := rfl
@[simp] theorem State.setPeers_self (s : State) : s.setPeers s.peers = s := rfl
@[simp] theorem State.setPeers_twice (s : State) (x y : PeerTable) : (s.setPeers x).setPeers y = s.setPeers y := rfl

@[simp] theorem State.setShare_vehicle (s : State) (x : Share) : (s.setShare x).vehicle = s.vehicle := rfl
@[simp] theorem State.setShare_tracker (s : State) (x : Share) : (s.setShare x).tracker = s.tracker := rfl
@[simp] theorem State.setShare_account (s : State) (x : Share) : (s.setShare x).account = s.account := rfl
@[simp] theorem State.setShare_link (s : State) (x : Share) : (s.setShare x).link = s.link := rfl
@[simp] theorem State.setShare_peers (s : State) (x : Share) : (s.setShare x).peers = s.peers := rfl
@[simp] theorem State.setShare_share (s : State) (x : Share) : (s.setShare x).share = x := rfl
@[simp] theorem State.setShare_reserve (s : State) (x : Share) : (s.setShare x).reserve = s.reserve := rfl
@[simp] theorem State.setShare_composer (s : State) (x : Share) : (s.setShare x).composer = s.composer := rfl
@[simp] theorem State.setShare_store (s : State) (x : Share) : (s.setShare x).store = s.store := rfl
@[simp] theorem State.setShare_service (s : State) (x : Share) : (s.setShare x).service = s.service := rfl
@[simp] theorem State.setShare_clock (s : State) (x : Share) : (s.setShare x).clock = s.clock := rfl
@[simp] theorem State.setShare_freeDraws (s : State) (x : Share) : (s.setShare x).freeDraws = s.freeDraws := rfl
@[simp] theorem State.setShare_pending (s : State) (x : Share) : (s.setShare x).pending = s.pending := rfl
@[simp] theorem State.setShare_self (s : State) : s.setShare s.share = s := rfl
@[simp] theorem State.setShare_twice (s : State) (x y : Share) : (s.setShare x).setShare y = s.setShare y := rfl

@[simp] theorem State.setReserve_vehicle (s : State) (x : Reserve) : (s.setReserve x).vehicle = s.vehicle := rfl
@[simp] theorem State.setReserve_tracker (s : State) (x : Reserve) : (s.setReserve x).tracker = s.tracker := rfl
@[simp] theorem State.setReserve_account (s : State) (x : Reserve) : (s.setReserve x).account = s.account := rfl
@[simp] theorem State.setReserve_link (s : State) (x : Reserve) : (s.setReserve x).link = s.link := rfl
@[simp] theorem State.setReserve_peers (s : State) (x : Reserve) : (s.setReserve x).peers = s.peers := rfl
@[simp] theorem State.setReserve_share (s : State) (x : Reserve) : (s.setReserve x).share = s.share := rfl
@[simp] theorem State.setReserve_reserve (s : State) (x : Reserve) : (s.setReserve x).reserve = x := rfl
@[simp] theorem State.setReserve_composer (s : State) (x : Reserve) : (s.setReserve x).composer = s.composer := rfl
@[simp] theorem State.setReserve_store (s : State) (x : Reserve) : (s.setReserve x).store = s.store := rfl
@[simp] theorem State.setReserve_service (s : State) (x : Reserve) : (s.setReserve x).service = s.service := rfl
@[simp] theorem State.setReserve_clock (s : State) (x : Reserve) : (s.setReserve x).clock = s.clock := rfl
@[simp] theorem State.setReserve_freeDraws (s : State) (x : Reserve) : (s.setReserve x).freeDraws = s.freeDraws := rfl
@[simp] theorem State.setReserve_pending (s : State) (x : Reserve) : (s.setReserve x).pending = s.pending := rfl
@[simp] theorem State.setReserve_self (s : State) : s.setReserve s.reserve = s := rfl
@[simp] theorem State.setReserve_twice (s : State) (x y : Reserve) : (s.setReserve x).setReserve y = s.setReserve y := rfl

@[simp] theorem State.setComposer_vehicle (s : State) (x : Composer) : (s.setComposer x).vehicle = s.vehicle := rfl
@[simp] theorem State.setComposer_tracker (s : State) (x : Composer) : (s.setComposer x).tracker = s.tracker := rfl
@[simp] theorem State.setComposer_account (s : State) (x : Composer) : (s.setComposer x).account = s.account := rfl
@[simp] theorem State.setComposer_link (s : State) (x : Composer) : (s.setComposer x).link = s.link := rfl
@[simp] theorem State.setComposer_peers (s : State) (x : Composer) : (s.setComposer x).peers = s.peers := rfl
@[simp] theorem State.setComposer_share (s : State) (x : Composer) : (s.setComposer x).share = s.share := rfl
@[simp] theorem State.setComposer_reserve (s : State) (x : Composer) : (s.setComposer x).reserve = s.reserve := rfl
@[simp] theorem State.setComposer_composer (s : State) (x : Composer) : (s.setComposer x).composer = x := rfl
@[simp] theorem State.setComposer_store (s : State) (x : Composer) : (s.setComposer x).store = s.store := rfl
@[simp] theorem State.setComposer_service (s : State) (x : Composer) : (s.setComposer x).service = s.service := rfl
@[simp] theorem State.setComposer_clock (s : State) (x : Composer) : (s.setComposer x).clock = s.clock := rfl
@[simp] theorem State.setComposer_freeDraws (s : State) (x : Composer) : (s.setComposer x).freeDraws = s.freeDraws := rfl
@[simp] theorem State.setComposer_pending (s : State) (x : Composer) : (s.setComposer x).pending = s.pending := rfl
@[simp] theorem State.setComposer_self (s : State) : s.setComposer s.composer = s := rfl
@[simp] theorem State.setComposer_twice (s : State) (x y : Composer) : (s.setComposer x).setComposer y = s.setComposer y := rfl

@[simp] theorem State.setStore_vehicle (s : State) (x : Store) : (s.setStore x).vehicle = s.vehicle := rfl
@[simp] theorem State.setStore_tracker (s : State) (x : Store) : (s.setStore x).tracker = s.tracker := rfl
@[simp] theorem State.setStore_account (s : State) (x : Store) : (s.setStore x).account = s.account := rfl
@[simp] theorem State.setStore_link (s : State) (x : Store) : (s.setStore x).link = s.link := rfl
@[simp] theorem State.setStore_peers (s : State) (x : Store) : (s.setStore x).peers = s.peers := rfl
@[simp] theorem State.setStore_share (s : State) (x : Store) : (s.setStore x).share = s.share := rfl
@[simp] theorem State.setStore_reserve (s : State) (x : Store) : (s.setStore x).reserve = s.reserve := rfl
@[simp] theorem State.setStore_composer (s : State) (x : Store) : (s.setStore x).composer = s.composer := rfl
@[simp] theorem State.setStore_store (s : State) (x : Store) : (s.setStore x).store = x := rfl
@[simp] theorem State.setStore_service (s : State) (x : Store) : (s.setStore x).service = s.service := rfl
@[simp] theorem State.setStore_clock (s : State) (x : Store) : (s.setStore x).clock = s.clock := rfl
@[simp] theorem State.setStore_freeDraws (s : State) (x : Store) : (s.setStore x).freeDraws = s.freeDraws := rfl
@[simp] theorem State.setStore_pending (s : State) (x : Store) : (s.setStore x).pending = s.pending := rfl
@[simp] theorem State.setStore_self (s : State) : s.setStore s.store = s := rfl
@[simp] theorem State.setStore_twice (s : State) (x y : Store) : (s.setStore x).setStore y = s.setStore y := rfl

@[simp] theorem State.setService_vehicle (s : State) (x : Service) : (s.setService x).vehicle = s.vehicle := rfl
@[simp] theorem State.setService_tracker (s : State) (x : Service) : (s.setService x).tracker = s.tracker := rfl
@[simp] theorem State.setService_account (s : State) (x : Service) : (s.setService x).account = s.account := rfl
@[simp] theorem State.setService_link (s : State) (x : Service) : (s.setService x).link = s.link := rfl
@[simp] theorem State.setService_peers (s : State) (x : Service) : (s.setService x).peers = s.peers := rfl
@[simp] theorem State.setService_share (s : State) (x : Service) : (s.setService x).share = s.share := rfl
@[simp] theorem State.setService_reserve (s : State) (x : Service) : (s.setService x).reserve = s.reserve := rfl
@[simp] theorem State.setService_composer (s : State) (x : Service) : (s.setService x).composer = s.composer := rfl
@[simp] theorem State.setService_store (s : State) (x : Service) : (s.setService x).store = s.store := rfl
@[simp] theorem State.setService_service (s : State) (x : Service) : (s.setService x).service = x := rfl
@[simp] theorem State.setService_clock (s : State) (x : Service) : (s.setService x).clock = s.clock := rfl
@[simp] theorem State.setService_freeDraws (s : State) (x : Service) : (s.setService x).freeDraws = s.freeDraws := rfl
@[simp] theorem State.setService_pending (s : State) (x : Service) : (s.setService x).pending = s.pending := rfl
@[simp] theorem State.setService_self (s : State) : s.setService s.service = s := rfl
@[simp] theorem State.setService_twice (s : State) (x y : Service) : (s.setService x).setService y = s.setService y := rfl

@[simp] theorem State.setClock_vehicle (s : State) (x : Nat) : (s.setClock x).vehicle = s.vehicle := rfl
@[simp] theorem State.setClock_tracker (s : State) (x : Nat) : (s.setClock x).tracker = s.tracker := rfl
@[simp] theorem State.setClock_account (s : State) (x : Nat) : (s.setClock x).account = s.account := rfl
@[simp] theorem State.setClock_link (s : State) (x : Nat) : (s.setClock x).link = s.link := rfl
@[simp] theorem State.setClock_peers (s : State) (x : Nat) : (s.setClock x).peers = s.peers := rfl
@[simp] theorem State.setClock_share (s : State) (x : Nat) : (s.setClock x).share = s.share := rfl
@[simp] theorem State.setClock_reserve (s : State) (x : Nat) : (s.setClock x).reserve = s.reserve := rfl
@[simp] theorem State.setClock_composer (s : State) (x : Nat) : (s.setClock x).composer = s.composer := rfl
@[simp] theorem State.setClock_store (s : State) (x : Nat) : (s.setClock x).store = s.store := rfl
@[simp] theorem State.setClock_service (s : State) (x : Nat) : (s.setClock x).service = s.service := rfl
@[simp] theorem State.setClock_clock (s : State) (x : Nat) : (s.setClock x).clock = x := rfl
@[simp] theorem State.setClock_freeDraws (s : State) (x : Nat) : (s.setClock x).freeDraws = s.freeDraws := rfl
@[simp] theorem State.setClock_pending (s : State) (x : Nat) : (s.setClock x).pending = s.pending := rfl
@[simp] theorem State.setClock_self (s : State) : s.setClock s.clock = s := rfl
@[simp] theorem State.setClock_twice (s : State) (x y : Nat) : (s.setClock x).setClock y = s.setClock y := rfl

@[simp] theorem State.setFreeDraws_vehicle (s : State) (x : Nat) : (s.setFreeDraws x).vehicle = s.vehicle := rfl
@[simp] theorem State.setFreeDraws_tracker (s : State) (x : Nat) : (s.setFreeDraws x).tracker = s.tracker := rfl
@[simp] theorem State.setFreeDraws_account (s : State) (x : Nat) : (s.setFreeDraws x).account = s.account := rfl
@[simp] theorem State.setFreeDraws_link (s : State) (x : Nat) : (s.setFreeDraws x).link = s.link := rfl
@[simp] theorem State.setFreeDraws_peers (s : State) (x : Nat) : (s.setFreeDraws x).peers = s.peers := rfl
@[simp] theorem State.setFreeDraws_share (s : State) (x : Nat) : (s.setFreeDraws x).share = s.share := rfl
@[simp] theorem State.setFreeDraws_reserve (s : State) (x : Nat) : (s.setFreeDraws x).reserve = s.reserve := rfl
@[simp] theorem State.setFreeDraws_composer (s : State) (x : Nat) : (s.setFreeDraws x).composer = s.composer := rfl
@[simp] theorem State.setFreeDraws_store (s : State) (x : Nat) : (s.setFreeDraws x).store = s.store := rfl
@[simp] theorem State.setFreeDraws_service (s : State) (x : Nat) : (s.setFreeDraws x).service = s.service := rfl
@[simp] theorem State.setFreeDraws_clock (s : State) (x : Nat) : (s.setFreeDraws x).clock = s.clock := rfl
@[simp] theorem State.setFreeDraws_freeDraws (s : State) (x : Nat) : (s.setFreeDraws x).freeDraws = x := rfl
@[simp] theorem State.setFreeDraws_pending (s : State) (x : Nat) : (s.setFreeDraws x).pending = s.pending := rfl
@[simp] theorem State.setFreeDraws_self (s : State) : s.setFreeDraws s.freeDraws = s := rfl
@[simp] theorem State.setFreeDraws_twice (s : State) (x y : Nat) : (s.setFreeDraws x).setFreeDraws y = s.setFreeDraws y := rfl

@[simp] theorem State.setPending_vehicle (s : State) (x : List Instr) : (s.setPending x).vehicle = s.vehicle := rfl
@[simp] theorem State.setPending_tracker (s : State) (x : List Instr) : (s.setPending x).tracker = s.tracker := rfl
@[simp] theorem State.setPending_account (s : State) (x : List Instr) : (s.setPending x).account = s.account := rfl
@[simp] theorem State.setPending_link (s : State) (x : List Instr) : (s.setPending x).link = s.link := rfl
@[simp] theorem State.setPending_peers (s : State) (x : List Instr) : (s.setPending x).peers = s.peers := rfl
@[simp] theorem State.setPending_share (s : State) (x : List Instr) : (s.setPending x).share = s.share := rfl
@[simp] theorem State.setPending_reserve (s : State) (x : List Instr) : (s.setPending x).reserve = s.reserve := rfl
@[simp] theorem State.setPending_composer (s : State) (x : List Instr) : (s.setPending x).composer = s.composer := rfl
@[simp] theorem State.setPending_store (s : State) (x : List Instr) : (s.setPending x).store = s.store := rfl
@[simp] theorem State.setPending_service (s : State) (x : List Instr) : (s.setPending x).service = s.service := rfl
@[simp] theorem State.setPending_clock (s : State) (x : List Instr) : (s.setPending x).clock = s.clock := rfl
@[simp] theorem State.setPending_freeDraws (s : State) (x : List Instr) : (s.setPending x).freeDraws = s.freeDraws := rfl
@[simp] theorem State.setPending_pending (s : State) (x : List Instr) : (s.setPending x).pending = x := rfl
@[simp] theorem State.setPending_self (s : State) : s.setPending s.pending = s := rfl
@[simp] theorem State.setPending_twice (s : State) (x y : List Instr) : (s.setPending x).setPending y = s.setPending y := rfl

end Sys2Proof.Machine
end

