-- ==== Sys2Proof/Laws/Frames.lean ====
section
/-! SUPPORT. The frame of each shared operation: the blocks of the state it leaves as they are. Each lemma is a
conjunction that `simp` uses field by field, so that no later proof unfolds an operation to see what it does not
touch. -/

namespace Sys2Proof.Machine

@[simp] theorem countDown_frame (n : Nat) (s : State) :
    (s.countDown n).account = s.account ∧ (s.countDown n).store = s.store ∧ (s.countDown n).service = s.service
      ∧ (s.countDown n).clock = s.clock ∧ (s.countDown n).freeDraws = s.freeDraws
      ∧ (s.countDown n).pending = s.pending := by
  simp [State.countDown]

@[simp] theorem elapse_frame (n : Nat) (s : State) :
    (s.elapse n).account = s.account ∧ (s.elapse n).store = s.store ∧ (s.elapse n).service = s.service
      ∧ (s.elapse n).freeDraws = s.freeDraws ∧ (s.elapse n).pending = s.pending := by
  simp [State.elapse]

@[simp] theorem advance_frame (n : Nat) (s : State) :
    (s.advance n).account = s.account ∧ (s.advance n).store = s.store ∧ (s.advance n).service = s.service
      ∧ (s.advance n).freeDraws = s.freeDraws ∧ (s.advance n).pending = s.pending := by
  simp [State.advance]

@[simp] theorem drawn_frame (s : State) : s.drawn = s.setFreeDraws (s.freeDraws + 1) := rfl

@[simp] theorem raise_frame (c : Cause) (s : State) :
    (raise c s).vehicle = s.vehicle ∧ (raise c s).tracker = s.tracker ∧ (raise c s).account = s.account
      ∧ (raise c s).link = s.link ∧ (raise c s).peers = s.peers ∧ (raise c s).share = s.share
      ∧ (raise c s).reserve = s.reserve ∧ (raise c s).composer = s.composer ∧ (raise c s).store = s.store
      ∧ (raise c s).clock = s.clock ∧ (raise c s).freeDraws = s.freeDraws ∧ (raise c s).pending = s.pending := by
  unfold raise
  simp

@[simp] theorem updateEstimate_frame (s : State) :
    (updateEstimate s).vehicle = s.vehicle ∧ (updateEstimate s).tracker = s.tracker
      ∧ (updateEstimate s).link = s.link ∧ (updateEstimate s).peers = s.peers ∧ (updateEstimate s).share = s.share
      ∧ (updateEstimate s).reserve = s.reserve ∧ (updateEstimate s).composer = s.composer
      ∧ (updateEstimate s).store = s.store ∧ (updateEstimate s).service = s.service
      ∧ (updateEstimate s).clock = s.clock ∧ (updateEstimate s).freeDraws = s.freeDraws
      ∧ (updateEstimate s).pending = s.pending := by
  unfold updateEstimate
  simp

@[simp] theorem updateLending_frame (s : State) :
    (updateLending s).vehicle = s.vehicle ∧ (updateLending s).tracker = s.tracker ∧ (updateLending s).link = s.link
      ∧ (updateLending s).peers = s.peers ∧ (updateLending s).share = s.share
      ∧ (updateLending s).reserve = s.reserve ∧ (updateLending s).composer = s.composer
      ∧ (updateLending s).store = s.store ∧ (updateLending s).service = s.service
      ∧ (updateLending s).clock = s.clock ∧ (updateLending s).freeDraws = s.freeDraws
      ∧ (updateLending s).pending = s.pending := by
  unfold updateLending
  simp

@[simp] theorem reconcile_frame (s : State) :
    (reconcile s).vehicle = s.vehicle ∧ (reconcile s).tracker = s.tracker ∧ (reconcile s).link = s.link
      ∧ (reconcile s).peers = s.peers ∧ (reconcile s).share = s.share ∧ (reconcile s).reserve = s.reserve
      ∧ (reconcile s).composer = s.composer ∧ (reconcile s).store = s.store ∧ (reconcile s).service = s.service
      ∧ (reconcile s).clock = s.clock ∧ (reconcile s).freeDraws = s.freeDraws ∧ (reconcile s).pending = s.pending := by
  unfold reconcile
  simp

@[simp] theorem handOver_frame (p : Int) (s : State) :
    (handOver p s).vehicle = s.vehicle ∧ (handOver p s).tracker = s.tracker ∧ (handOver p s).link = s.link
      ∧ (handOver p s).peers = s.peers ∧ (handOver p s).share = s.share ∧ (handOver p s).reserve = s.reserve
      ∧ (handOver p s).composer = s.composer ∧ (handOver p s).store = s.store ∧ (handOver p s).service = s.service
      ∧ (handOver p s).clock = s.clock ∧ (handOver p s).freeDraws = s.freeDraws ∧ (handOver p s).pending = s.pending := by
  unfold handOver
  repeat' split
  all_goals simp

@[simp] theorem storeAnnounce_frame (f : WireAnnounce) (s : State) :
    (storeAnnounce f s).vehicle = s.vehicle ∧ (storeAnnounce f s).tracker = s.tracker
      ∧ (storeAnnounce f s).account = s.account ∧ (storeAnnounce f s).link = s.link
      ∧ (storeAnnounce f s).share = s.share ∧ (storeAnnounce f s).reserve = s.reserve
      ∧ (storeAnnounce f s).composer = s.composer ∧ (storeAnnounce f s).store = s.store
      ∧ (storeAnnounce f s).service = s.service ∧ (storeAnnounce f s).clock = s.clock
      ∧ (storeAnnounce f s).freeDraws = s.freeDraws ∧ (storeAnnounce f s).pending = s.pending := by
  unfold storeAnnounce
  simp

@[simp] theorem allocateShare_frame (s : State) :
    (allocateShare s).vehicle = s.vehicle ∧ (allocateShare s).tracker = s.tracker
      ∧ (allocateShare s).account = s.account ∧ (allocateShare s).link = s.link ∧ (allocateShare s).peers = s.peers
      ∧ (allocateShare s).reserve = s.reserve ∧ (allocateShare s).composer = s.composer
      ∧ (allocateShare s).store = s.store ∧ (allocateShare s).service = s.service
      ∧ (allocateShare s).clock = s.clock ∧ (allocateShare s).freeDraws = s.freeDraws
      ∧ (allocateShare s).pending = s.pending := by
  unfold allocateShare
  repeat' split
  all_goals simp

@[simp] theorem claimHanded_frame (s : State) :
    (claimHanded s).vehicle = s.vehicle ∧ (claimHanded s).tracker = s.tracker ∧ (claimHanded s).account = s.account
      ∧ (claimHanded s).link = s.link ∧ (claimHanded s).peers = s.peers ∧ (claimHanded s).reserve = s.reserve
      ∧ (claimHanded s).composer = s.composer ∧ (claimHanded s).store = s.store
      ∧ (claimHanded s).service = s.service ∧ (claimHanded s).clock = s.clock
      ∧ (claimHanded s).freeDraws = s.freeDraws ∧ (claimHanded s).pending = s.pending := by
  unfold claimHanded
  repeat' split
  all_goals simp

@[simp] theorem judgedPlausible_frame (w : WorkingCopy) (d : Int) (s : State) :
    (judgedPlausible w d s).vehicle = s.vehicle ∧ (judgedPlausible w d s).tracker = s.tracker
      ∧ (judgedPlausible w d s).account = s.account ∧ (judgedPlausible w d s).link = s.link
      ∧ (judgedPlausible w d s).peers = s.peers ∧ (judgedPlausible w d s).share = s.share
      ∧ (judgedPlausible w d s).composer = s.composer ∧ (judgedPlausible w d s).store = s.store
      ∧ (judgedPlausible w d s).service = s.service ∧ (judgedPlausible w d s).clock = s.clock
      ∧ (judgedPlausible w d s).freeDraws = s.freeDraws ∧ (judgedPlausible w d s).pending = s.pending := by
  unfold judgedPlausible
  repeat' split
  all_goals simp

@[simp] theorem takeImplausible_frame (s : State) :
    (takeImplausible s).vehicle = s.vehicle ∧ (takeImplausible s).tracker = s.tracker
      ∧ (takeImplausible s).account = s.account ∧ (takeImplausible s).link = s.link
      ∧ (takeImplausible s).peers = s.peers ∧ (takeImplausible s).share = s.share
      ∧ (takeImplausible s).composer = s.composer ∧ (takeImplausible s).store = s.store
      ∧ (takeImplausible s).clock = s.clock ∧ (takeImplausible s).freeDraws = s.freeDraws
      ∧ (takeImplausible s).pending = s.pending := by
  unfold takeImplausible
  repeat' split
  all_goals simp

@[simp] theorem judgedImplausible_frame (s : State) :
    (judgedImplausible s).vehicle = s.vehicle ∧ (judgedImplausible s).tracker = s.tracker
      ∧ (judgedImplausible s).account = s.account ∧ (judgedImplausible s).link = s.link
      ∧ (judgedImplausible s).peers = s.peers ∧ (judgedImplausible s).share = s.share
      ∧ (judgedImplausible s).composer = s.composer ∧ (judgedImplausible s).store = s.store
      ∧ (judgedImplausible s).clock = s.clock ∧ (judgedImplausible s).freeDraws = s.freeDraws
      ∧ (judgedImplausible s).pending = s.pending := by
  unfold judgedImplausible
  repeat' split
  all_goals simp

@[simp] theorem judgeMeasurement_frame (w : WorkingCopy) (f : Option Nat) (s : State) :
    (judgeMeasurement w f s).vehicle = s.vehicle ∧ (judgeMeasurement w f s).tracker = s.tracker
      ∧ (judgeMeasurement w f s).account = s.account ∧ (judgeMeasurement w f s).link = s.link
      ∧ (judgeMeasurement w f s).peers = s.peers ∧ (judgeMeasurement w f s).share = s.share
      ∧ (judgeMeasurement w f s).composer = s.composer ∧ (judgeMeasurement w f s).store = s.store
      ∧ (judgeMeasurement w f s).clock = s.clock ∧ (judgeMeasurement w f s).freeDraws = s.freeDraws
      ∧ (judgeMeasurement w f s).pending = s.pending := by
  unfold judgeMeasurement
  repeat' split
  all_goals simp

@[simp] theorem computeOffers_frame (s : State) :
    (computeOffers s).vehicle = s.vehicle ∧ (computeOffers s).tracker = s.tracker
      ∧ (computeOffers s).account = s.account ∧ (computeOffers s).link = s.link ∧ (computeOffers s).peers = s.peers
      ∧ (computeOffers s).share = s.share ∧ (computeOffers s).composer = s.composer
      ∧ (computeOffers s).store = s.store ∧ (computeOffers s).service = s.service
      ∧ (computeOffers s).clock = s.clock ∧ (computeOffers s).freeDraws = s.freeDraws
      ∧ (computeOffers s).pending = s.pending := by
  unfold computeOffers
  simp

@[simp] theorem allocateReserve_frame (s : State) :
    (allocateReserve s).vehicle = s.vehicle ∧ (allocateReserve s).tracker = s.tracker
      ∧ (allocateReserve s).account = s.account ∧ (allocateReserve s).link = s.link
      ∧ (allocateReserve s).peers = s.peers ∧ (allocateReserve s).share = s.share
      ∧ (allocateReserve s).composer = s.composer ∧ (allocateReserve s).store = s.store
      ∧ (allocateReserve s).clock = s.clock ∧ (allocateReserve s).freeDraws = s.freeDraws
      ∧ (allocateReserve s).pending = s.pending := by
  unfold allocateReserve
  repeat' split
  all_goals simp

@[simp] theorem allocationEvent_frame (s : State) :
    (allocationEvent s).vehicle = s.vehicle ∧ (allocationEvent s).tracker = s.tracker
      ∧ (allocationEvent s).account = s.account ∧ (allocationEvent s).link = s.link
      ∧ (allocationEvent s).peers = s.peers ∧ (allocationEvent s).composer = s.composer
      ∧ (allocationEvent s).store = s.store ∧ (allocationEvent s).clock = s.clock
      ∧ (allocationEvent s).freeDraws = s.freeDraws ∧ (allocationEvent s).pending = s.pending := by
  unfold allocationEvent
  simp

@[simp] theorem raiseAtRisk_frame (before : Readiness) (s : State) :
    (raiseAtRisk before s).vehicle = s.vehicle ∧ (raiseAtRisk before s).tracker = s.tracker
      ∧ (raiseAtRisk before s).account = s.account ∧ (raiseAtRisk before s).link = s.link
      ∧ (raiseAtRisk before s).peers = s.peers ∧ (raiseAtRisk before s).share = s.share
      ∧ (raiseAtRisk before s).reserve = s.reserve ∧ (raiseAtRisk before s).composer = s.composer
      ∧ (raiseAtRisk before s).store = s.store ∧ (raiseAtRisk before s).clock = s.clock
      ∧ (raiseAtRisk before s).freeDraws = s.freeDraws ∧ (raiseAtRisk before s).pending = s.pending := by
  unfold raiseAtRisk
  repeat' split
  all_goals simp

@[simp] theorem recompute_frame (cardStored : Bool) (s : State) :
    (recompute cardStored s).vehicle = s.vehicle ∧ (recompute cardStored s).link = s.link
      ∧ (recompute cardStored s).peers = s.peers ∧ (recompute cardStored s).reserve = s.reserve
      ∧ (recompute cardStored s).composer = s.composer ∧ (recompute cardStored s).store = s.store
      ∧ (recompute cardStored s).clock = s.clock ∧ (recompute cardStored s).freeDraws = s.freeDraws
      ∧ (recompute cardStored s).pending = s.pending := by
  unfold recompute
  repeat' split
  all_goals simp

@[simp] theorem recomputeIfLinked_frame (s : State) :
    (recomputeIfLinked s).vehicle = s.vehicle ∧ (recomputeIfLinked s).link = s.link
      ∧ (recomputeIfLinked s).peers = s.peers ∧ (recomputeIfLinked s).reserve = s.reserve
      ∧ (recomputeIfLinked s).composer = s.composer ∧ (recomputeIfLinked s).store = s.store
      ∧ (recomputeIfLinked s).clock = s.clock ∧ (recomputeIfLinked s).freeDraws = s.freeDraws
      ∧ (recomputeIfLinked s).pending = s.pending := by
  unfold recomputeIfLinked
  repeat' split
  all_goals simp

@[simp] theorem storeCard_frame (c : WireCard) (s : State) :
    (storeCard c s).vehicle = s.vehicle ∧ (storeCard c s).link = s.link ∧ (storeCard c s).peers = s.peers
      ∧ (storeCard c s).reserve = s.reserve ∧ (storeCard c s).composer = s.composer
      ∧ (storeCard c s).store = s.store ∧ (storeCard c s).clock = s.clock ∧ (storeCard c s).freeDraws = s.freeDraws
      ∧ (storeCard c s).pending = s.pending := by
  unfold storeCard
  simp

@[simp] theorem endSession_frame (s : State) :
    (endSession s).vehicle = s.vehicle ∧ (endSession s).link = s.link ∧ (endSession s).peers = s.peers
      ∧ (endSession s).reserve = s.reserve ∧ (endSession s).composer = s.composer ∧ (endSession s).store = s.store
      ∧ (endSession s).service = s.service ∧ (endSession s).clock = s.clock ∧ (endSession s).freeDraws = s.freeDraws
      ∧ (endSession s).pending = s.pending := by
  unfold endSession
  simp

@[simp] theorem halt_frame (r : HaltReason) (s : State) :
    (halt r s).link = s.link ∧ (halt r s).peers = s.peers ∧ (halt r s).reserve = s.reserve
      ∧ (halt r s).composer = s.composer ∧ (halt r s).store = s.store ∧ (halt r s).clock = s.clock
      ∧ (halt r s).freeDraws = s.freeDraws ∧ (halt r s).pending = s.pending := by
  unfold halt
  repeat' split
  all_goals simp

@[simp] theorem checkLinkUp_frame (s : State) :
    (checkLinkUp s).link = s.link ∧ (checkLinkUp s).peers = s.peers ∧ (checkLinkUp s).share = s.share
      ∧ (checkLinkUp s).reserve = s.reserve ∧ (checkLinkUp s).composer = s.composer
      ∧ (checkLinkUp s).store = s.store ∧ (checkLinkUp s).service = s.service ∧ (checkLinkUp s).clock = s.clock
      ∧ (checkLinkUp s).freeDraws = s.freeDraws ∧ (checkLinkUp s).pending = s.pending := by
  unfold checkLinkUp
  repeat' split
  all_goals simp

@[simp] theorem unplug_frame (s : State) :
    (unplug s).link = s.link ∧ (unplug s).peers = s.peers ∧ (unplug s).reserve = s.reserve
      ∧ (unplug s).composer = s.composer ∧ (unplug s).store = s.store ∧ (unplug s).service = s.service
      ∧ (unplug s).clock = s.clock ∧ (unplug s).freeDraws = s.freeDraws ∧ (unplug s).pending = s.pending := by
  unfold unplug
  simp

@[simp] theorem confirmNone_frame (s : State) :
    (confirmNone s).link = s.link ∧ (confirmNone s).peers = s.peers ∧ (confirmNone s).reserve = s.reserve
      ∧ (confirmNone s).composer = s.composer ∧ (confirmNone s).store = s.store
      ∧ (confirmNone s).service = s.service ∧ (confirmNone s).clock = s.clock
      ∧ (confirmNone s).freeDraws = s.freeDraws ∧ (confirmNone s).pending = s.pending := by
  unfold confirmNone
  repeat' split
  all_goals simp

@[simp] theorem enterAlone_frame (s : State) :
    (enterAlone s).vehicle = s.vehicle ∧ (enterAlone s).tracker = s.tracker ∧ (enterAlone s).account = s.account
      ∧ (enterAlone s).link = s.link ∧ (enterAlone s).composer = s.composer ∧ (enterAlone s).store = s.store
      ∧ (enterAlone s).clock = s.clock ∧ (enterAlone s).freeDraws = s.freeDraws ∧ (enterAlone s).pending = s.pending := by
  unfold enterAlone
  repeat' split
  all_goals simp

@[simp] theorem decideAlone_frame (s : State) :
    (decideAlone s).vehicle = s.vehicle ∧ (decideAlone s).tracker = s.tracker ∧ (decideAlone s).account = s.account
      ∧ (decideAlone s).link = s.link ∧ (decideAlone s).composer = s.composer ∧ (decideAlone s).store = s.store
      ∧ (decideAlone s).clock = s.clock ∧ (decideAlone s).freeDraws = s.freeDraws
      ∧ (decideAlone s).pending = s.pending := by
  unfold decideAlone
  repeat' split
  all_goals simp

@[simp] theorem rederate_frame (w : WorkingCopy) (s : State) :
    (rederate w s).vehicle = s.vehicle ∧ (rederate w s).link = s.link ∧ (rederate w s).peers = s.peers
      ∧ (rederate w s).reserve = s.reserve ∧ (rederate w s).store = s.store ∧ (rederate w s).clock = s.clock
      ∧ (rederate w s).freeDraws = s.freeDraws ∧ (rederate w s).pending = s.pending := by
  unfold rederate
  repeat' split
  all_goals simp

@[simp] theorem leaveRunning_frame (s : State) :
    (leaveRunning s).vehicle = s.vehicle ∧ (leaveRunning s).tracker = s.tracker
      ∧ (leaveRunning s).account = s.account ∧ (leaveRunning s).link = s.link
      ∧ (leaveRunning s).composer = s.composer ∧ (leaveRunning s).store = s.store
      ∧ (leaveRunning s).service = s.service ∧ (leaveRunning s).clock = s.clock
      ∧ (leaveRunning s).freeDraws = s.freeDraws ∧ (leaveRunning s).pending = s.pending := by
  unfold leaveRunning
  simp

@[simp] theorem listenStage_frame (w : WorkingCopy) (s : State) :
    (listenStage w s).vehicle = s.vehicle ∧ (listenStage w s).link = s.link ∧ (listenStage w s).peers = s.peers
      ∧ (listenStage w s).reserve = s.reserve ∧ (listenStage w s).store = s.store
      ∧ (listenStage w s).clock = s.clock ∧ (listenStage w s).freeDraws = s.freeDraws
      ∧ (listenStage w s).pending = s.pending := by
  unfold listenStage
  repeat' split
  all_goals simp

@[simp] theorem enterListening_frame (w : WorkingCopy) (s : State) :
    (enterListening w s).store = s.store ∧ (enterListening w s).clock = s.clock
      ∧ (enterListening w s).freeDraws = s.freeDraws ∧ (enterListening w s).pending = s.pending := by
  unfold enterListening
  simp

@[simp] theorem enterUnconfigured_frame (s : State) :
    (enterUnconfigured s).vehicle = s.vehicle ∧ (enterUnconfigured s).tracker = s.tracker
      ∧ (enterUnconfigured s).account = s.account ∧ (enterUnconfigured s).composer = s.composer
      ∧ (enterUnconfigured s).store = s.store ∧ (enterUnconfigured s).clock = s.clock
      ∧ (enterUnconfigured s).freeDraws = s.freeDraws ∧ (enterUnconfigured s).pending = s.pending := by
  unfold enterUnconfigured
  simp

@[simp] theorem enterClash_frame (s : State) :
    (enterClash s).vehicle = s.vehicle ∧ (enterClash s).tracker = s.tracker ∧ (enterClash s).account = s.account
      ∧ (enterClash s).composer = s.composer ∧ (enterClash s).store = s.store ∧ (enterClash s).clock = s.clock
      ∧ (enterClash s).freeDraws = s.freeDraws ∧ (enterClash s).pending = s.pending := by
  unfold enterClash
  simp

@[simp] theorem shedRunning_frame (w : WorkingCopy) (fraction : Nat) (s : State) :
    (shedRunning w fraction s).vehicle = s.vehicle ∧ (shedRunning w fraction s).tracker = s.tracker
      ∧ (shedRunning w fraction s).account = s.account ∧ (shedRunning w fraction s).link = s.link
      ∧ (shedRunning w fraction s).peers = s.peers ∧ (shedRunning w fraction s).store = s.store
      ∧ (shedRunning w fraction s).service = s.service ∧ (shedRunning w fraction s).clock = s.clock
      ∧ (shedRunning w fraction s).freeDraws = s.freeDraws ∧ (shedRunning w fraction s).pending = s.pending := by
  unfold shedRunning
  simp

@[simp] theorem shedListening_frame (w : WorkingCopy) (s : State) :
    (shedListening w s).vehicle = s.vehicle ∧ (shedListening w s).tracker = s.tracker
      ∧ (shedListening w s).account = s.account ∧ (shedListening w s).link = s.link
      ∧ (shedListening w s).peers = s.peers ∧ (shedListening w s).composer = s.composer
      ∧ (shedListening w s).store = s.store ∧ (shedListening w s).service = s.service
      ∧ (shedListening w s).clock = s.clock ∧ (shedListening w s).freeDraws = s.freeDraws
      ∧ (shedListening w s).pending = s.pending := by
  unfold shedListening
  simp

@[simp] theorem takeShed_frame (w : WorkingCopy) (fraction : Nat) (s : State) :
    (takeShed w fraction s).vehicle = s.vehicle ∧ (takeShed w fraction s).tracker = s.tracker
      ∧ (takeShed w fraction s).account = s.account ∧ (takeShed w fraction s).link = s.link
      ∧ (takeShed w fraction s).peers = s.peers ∧ (takeShed w fraction s).store = s.store
      ∧ (takeShed w fraction s).clock = s.clock ∧ (takeShed w fraction s).freeDraws = s.freeDraws
      ∧ (takeShed w fraction s).pending = s.pending := by
  unfold takeShed
  repeat' split
  all_goals simp

@[simp] theorem clockZeros_frame (n : Nat) (s : State) :
    (clockZeros n s).vehicle = s.vehicle ∧ (clockZeros n s).tracker = s.tracker
      ∧ (clockZeros n s).account = s.account ∧ (clockZeros n s).link = s.link ∧ (clockZeros n s).peers = s.peers
      ∧ (clockZeros n s).share = s.share ∧ (clockZeros n s).reserve = s.reserve
      ∧ (clockZeros n s).composer = s.composer ∧ (clockZeros n s).store = s.store ∧ (clockZeros n s).clock = s.clock
      ∧ (clockZeros n s).freeDraws = s.freeDraws ∧ (clockZeros n s).pending = s.pending := by
  unfold clockZeros
  simp

@[simp] theorem respond_frame (clocked : Nat) (status : Status) (data : List Byte) (s : State) :
    (respond clocked status data s).vehicle = s.vehicle ∧ (respond clocked status data s).tracker = s.tracker
      ∧ (respond clocked status data s).account = s.account ∧ (respond clocked status data s).link = s.link
      ∧ (respond clocked status data s).peers = s.peers ∧ (respond clocked status data s).share = s.share
      ∧ (respond clocked status data s).reserve = s.reserve ∧ (respond clocked status data s).composer = s.composer
      ∧ (respond clocked status data s).store = s.store ∧ (respond clocked status data s).clock = s.clock
      ∧ (respond clocked status data s).freeDraws = s.freeDraws
      ∧ (respond clocked status data s).pending = s.pending := by
  unfold respond
  simp

@[simp] theorem decideTestFrame_frame (pass : Bool) (s : State) :
    (decideTestFrame pass s).tracker = s.tracker ∧ (decideTestFrame pass s).account = s.account
      ∧ (decideTestFrame pass s).link = s.link ∧ (decideTestFrame pass s).peers = s.peers
      ∧ (decideTestFrame pass s).share = s.share ∧ (decideTestFrame pass s).reserve = s.reserve
      ∧ (decideTestFrame pass s).composer = s.composer ∧ (decideTestFrame pass s).store = s.store
      ∧ (decideTestFrame pass s).clock = s.clock ∧ (decideTestFrame pass s).freeDraws = s.freeDraws
      ∧ (decideTestFrame pass s).pending = s.pending := by
  unfold decideTestFrame
  repeat' split
  all_goals simp

@[simp] theorem loopReceive_frame (frame : List Byte) (s : State) :
    (loopReceive frame s).tracker = s.tracker ∧ (loopReceive frame s).account = s.account
      ∧ (loopReceive frame s).link = s.link ∧ (loopReceive frame s).peers = s.peers
      ∧ (loopReceive frame s).share = s.share ∧ (loopReceive frame s).reserve = s.reserve
      ∧ (loopReceive frame s).composer = s.composer ∧ (loopReceive frame s).store = s.store
      ∧ (loopReceive frame s).clock = s.clock ∧ (loopReceive frame s).freeDraws = s.freeDraws
      ∧ (loopReceive frame s).pending = s.pending := by
  unfold loopReceive
  repeat' split
  all_goals simp

@[simp] theorem abortLoopTest_frame (s : State) :
    (abortLoopTest s).tracker = s.tracker ∧ (abortLoopTest s).account = s.account ∧ (abortLoopTest s).link = s.link
      ∧ (abortLoopTest s).peers = s.peers ∧ (abortLoopTest s).share = s.share
      ∧ (abortLoopTest s).reserve = s.reserve ∧ (abortLoopTest s).composer = s.composer
      ∧ (abortLoopTest s).store = s.store ∧ (abortLoopTest s).clock = s.clock
      ∧ (abortLoopTest s).freeDraws = s.freeDraws ∧ (abortLoopTest s).pending = s.pending := by
  unfold abortLoopTest
  simp

@[simp] theorem sampleAbortsTest_frame (before : VehicleLine) (s : State) :
    (sampleAbortsTest before s).tracker = s.tracker ∧ (sampleAbortsTest before s).account = s.account
      ∧ (sampleAbortsTest before s).link = s.link ∧ (sampleAbortsTest before s).peers = s.peers
      ∧ (sampleAbortsTest before s).share = s.share ∧ (sampleAbortsTest before s).reserve = s.reserve
      ∧ (sampleAbortsTest before s).composer = s.composer ∧ (sampleAbortsTest before s).store = s.store
      ∧ (sampleAbortsTest before s).clock = s.clock ∧ (sampleAbortsTest before s).freeDraws = s.freeDraws
      ∧ (sampleAbortsTest before s).pending = s.pending := by
  unfold sampleAbortsTest
  repeat' split
  all_goals simp

@[simp] theorem sampleUnplugs_frame (before : VehicleLine) (s : State) :
    (sampleUnplugs before s).link = s.link ∧ (sampleUnplugs before s).peers = s.peers
      ∧ (sampleUnplugs before s).reserve = s.reserve ∧ (sampleUnplugs before s).composer = s.composer
      ∧ (sampleUnplugs before s).store = s.store ∧ (sampleUnplugs before s).service = s.service
      ∧ (sampleUnplugs before s).clock = s.clock ∧ (sampleUnplugs before s).freeDraws = s.freeDraws
      ∧ (sampleUnplugs before s).pending = s.pending := by
  unfold sampleUnplugs
  repeat' split
  all_goals simp

@[simp] theorem evaluateFaults_frame (s : State) :
    (evaluateFaults s).link = s.link ∧ (evaluateFaults s).peers = s.peers ∧ (evaluateFaults s).reserve = s.reserve
      ∧ (evaluateFaults s).composer = s.composer ∧ (evaluateFaults s).store = s.store
      ∧ (evaluateFaults s).clock = s.clock ∧ (evaluateFaults s).freeDraws = s.freeDraws
      ∧ (evaluateFaults s).pending = s.pending := by
  unfold evaluateFaults
  split
  · cases connectorFault s.vehicle <;> simp
  · simp

@[simp] theorem sampleRecompute_frame (changed : Bool) (s : State) :
    (sampleRecompute changed s).vehicle = s.vehicle ∧ (sampleRecompute changed s).link = s.link
      ∧ (sampleRecompute changed s).peers = s.peers ∧ (sampleRecompute changed s).reserve = s.reserve
      ∧ (sampleRecompute changed s).composer = s.composer ∧ (sampleRecompute changed s).store = s.store
      ∧ (sampleRecompute changed s).clock = s.clock ∧ (sampleRecompute changed s).freeDraws = s.freeDraws
      ∧ (sampleRecompute changed s).pending = s.pending := by
  unfold sampleRecompute
  repeat' split
  all_goals simp

@[simp] theorem connectorSampled_frame (p : PilotClass) (x : Proximity) (e : Earth) (s : State) :
    (connectorSampled p x e s).link = s.link ∧ (connectorSampled p x e s).peers = s.peers
      ∧ (connectorSampled p x e s).reserve = s.reserve ∧ (connectorSampled p x e s).composer = s.composer
      ∧ (connectorSampled p x e s).store = s.store ∧ (connectorSampled p x e s).clock = s.clock
      ∧ (connectorSampled p x e s).freeDraws = s.freeDraws ∧ (connectorSampled p x e s).pending = s.pending := by
  unfold connectorSampled
  simp

@[simp] theorem startWatchdog_frame (s : State) :
    (startWatchdog s).tracker = s.tracker ∧ (startWatchdog s).account = s.account ∧ (startWatchdog s).link = s.link
      ∧ (startWatchdog s).peers = s.peers ∧ (startWatchdog s).share = s.share
      ∧ (startWatchdog s).reserve = s.reserve ∧ (startWatchdog s).composer = s.composer
      ∧ (startWatchdog s).store = s.store ∧ (startWatchdog s).service = s.service
      ∧ (startWatchdog s).clock = s.clock ∧ (startWatchdog s).freeDraws = s.freeDraws
      ∧ (startWatchdog s).pending = s.pending := by
  unfold startWatchdog
  simp

@[simp] theorem takeIdent_frame (id : VehicleId) (c : WireCard) (s : State) :
    (takeIdent id c s).link = s.link ∧ (takeIdent id c s).peers = s.peers ∧ (takeIdent id c s).reserve = s.reserve
      ∧ (takeIdent id c s).composer = s.composer ∧ (takeIdent id c s).store = s.store
      ∧ (takeIdent id c s).clock = s.clock ∧ (takeIdent id c s).freeDraws = s.freeDraws
      ∧ (takeIdent id c s).pending = s.pending := by
  unfold takeIdent
  repeat' split
  all_goals simp

@[simp] theorem acceptStatus_frame (t : WireStatus) (s : State) :
    (acceptStatus t s).link = s.link ∧ (acceptStatus t s).peers = s.peers ∧ (acceptStatus t s).reserve = s.reserve
      ∧ (acceptStatus t s).composer = s.composer ∧ (acceptStatus t s).store = s.store
      ∧ (acceptStatus t s).clock = s.clock ∧ (acceptStatus t s).freeDraws = s.freeDraws
      ∧ (acceptStatus t s).pending = s.pending := by
  unfold acceptStatus
  simp

@[simp] theorem takeStatus_frame (t : WireStatus) (s : State) :
    (takeStatus t s).link = s.link ∧ (takeStatus t s).peers = s.peers ∧ (takeStatus t s).reserve = s.reserve
      ∧ (takeStatus t s).composer = s.composer ∧ (takeStatus t s).store = s.store ∧ (takeStatus t s).clock = s.clock
      ∧ (takeStatus t s).freeDraws = s.freeDraws ∧ (takeStatus t s).pending = s.pending := by
  unfold takeStatus
  repeat' split
  all_goals simp

@[simp] theorem takeCard_frame (c : WireCard) (s : State) :
    (takeCard c s).vehicle = s.vehicle ∧ (takeCard c s).link = s.link ∧ (takeCard c s).peers = s.peers
      ∧ (takeCard c s).reserve = s.reserve ∧ (takeCard c s).composer = s.composer ∧ (takeCard c s).store = s.store
      ∧ (takeCard c s).clock = s.clock ∧ (takeCard c s).freeDraws = s.freeDraws ∧ (takeCard c s).pending = s.pending := by
  unfold takeCard
  repeat' split
  all_goals simp

@[simp] theorem takeBackFrame_frame (frame : List Byte) (s : State) :
    (takeBackFrame frame s).link = s.link ∧ (takeBackFrame frame s).peers = s.peers
      ∧ (takeBackFrame frame s).reserve = s.reserve ∧ (takeBackFrame frame s).composer = s.composer
      ∧ (takeBackFrame frame s).store = s.store ∧ (takeBackFrame frame s).clock = s.clock
      ∧ (takeBackFrame frame s).freeDraws = s.freeDraws ∧ (takeBackFrame frame s).pending = s.pending := by
  unfold takeBackFrame
  repeat' split
  all_goals simp

@[simp] theorem minuteStep_frame (s : State) :
    (minuteStep s).vehicle = s.vehicle ∧ (minuteStep s).link = s.link ∧ (minuteStep s).peers = s.peers
      ∧ (minuteStep s).reserve = s.reserve ∧ (minuteStep s).composer = s.composer ∧ (minuteStep s).store = s.store
      ∧ (minuteStep s).clock = s.clock ∧ (minuteStep s).freeDraws = s.freeDraws ∧ (minuteStep s).pending = s.pending := by
  unfold minuteStep
  simp

@[simp] theorem helloUnanswered_frame (s : State) :
    (helloUnanswered s).link = s.link ∧ (helloUnanswered s).peers = s.peers
      ∧ (helloUnanswered s).reserve = s.reserve ∧ (helloUnanswered s).composer = s.composer
      ∧ (helloUnanswered s).store = s.store ∧ (helloUnanswered s).clock = s.clock
      ∧ (helloUnanswered s).freeDraws = s.freeDraws ∧ (helloUnanswered s).pending = s.pending := by
  unfold helloUnanswered
  repeat' split
  all_goals simp

@[simp] theorem forwardFrameSent_frame (s : State) :
    (forwardFrameSent s).tracker = s.tracker ∧ (forwardFrameSent s).account = s.account
      ∧ (forwardFrameSent s).link = s.link ∧ (forwardFrameSent s).peers = s.peers
      ∧ (forwardFrameSent s).share = s.share ∧ (forwardFrameSent s).reserve = s.reserve
      ∧ (forwardFrameSent s).composer = s.composer ∧ (forwardFrameSent s).store = s.store
      ∧ (forwardFrameSent s).service = s.service ∧ (forwardFrameSent s).clock = s.clock
      ∧ (forwardFrameSent s).freeDraws = s.freeDraws ∧ (forwardFrameSent s).pending = s.pending := by
  unfold forwardFrameSent
  repeat' split
  all_goals simp

@[simp] theorem stageFault_frame (r : HaltReason) (s : State) :
    (stageFault r s).link = s.link ∧ (stageFault r s).peers = s.peers ∧ (stageFault r s).reserve = s.reserve
      ∧ (stageFault r s).composer = s.composer ∧ (stageFault r s).store = s.store ∧ (stageFault r s).clock = s.clock
      ∧ (stageFault r s).freeDraws = s.freeDraws ∧ (stageFault r s).pending = s.pending := by
  unfold stageFault
  repeat' split
  all_goals simp

@[simp] theorem evaluateSilence_frame (s : State) :
    (evaluateSilence s).link = s.link ∧ (evaluateSilence s).peers = s.peers
      ∧ (evaluateSilence s).reserve = s.reserve ∧ (evaluateSilence s).store = s.store
      ∧ (evaluateSilence s).clock = s.clock ∧ (evaluateSilence s).freeDraws = s.freeDraws
      ∧ (evaluateSilence s).pending = s.pending := by
  unfold evaluateSilence
  repeat' split
  all_goals simp

@[simp] theorem evaluateConverter_frame (s : State) :
    (evaluateConverter s).link = s.link ∧ (evaluateConverter s).peers = s.peers
      ∧ (evaluateConverter s).reserve = s.reserve ∧ (evaluateConverter s).composer = s.composer
      ∧ (evaluateConverter s).store = s.store ∧ (evaluateConverter s).clock = s.clock
      ∧ (evaluateConverter s).freeDraws = s.freeDraws ∧ (evaluateConverter s).pending = s.pending := by
  unfold evaluateConverter
  repeat' split
  all_goals simp

@[simp] theorem acceptReport_frame (w : WorkingCopy) (r : WireReport) (state : Converter) (s : State) :
    (acceptReport w r state s).link = s.link ∧ (acceptReport w r state s).peers = s.peers
      ∧ (acceptReport w r state s).reserve = s.reserve ∧ (acceptReport w r state s).store = s.store
      ∧ (acceptReport w r state s).clock = s.clock ∧ (acceptReport w r state s).freeDraws = s.freeDraws
      ∧ (acceptReport w r state s).pending = s.pending := by
  unfold acceptReport
  simp

@[simp] theorem requestShed_frame (fraction : Nat) (s : State) :
    (requestShed fraction s).vehicle = s.vehicle ∧ (requestShed fraction s).tracker = s.tracker
      ∧ (requestShed fraction s).account = s.account ∧ (requestShed fraction s).peers = s.peers
      ∧ (requestShed fraction s).share = s.share ∧ (requestShed fraction s).reserve = s.reserve
      ∧ (requestShed fraction s).composer = s.composer ∧ (requestShed fraction s).store = s.store
      ∧ (requestShed fraction s).service = s.service ∧ (requestShed fraction s).clock = s.clock
      ∧ (requestShed fraction s).freeDraws = s.freeDraws ∧ (requestShed fraction s).pending = s.pending := by
  unfold requestShed
  repeat' split
  all_goals simp

@[simp] theorem shedSample_frame (w : WorkingCopy) (m : Int) (s : State) :
    (shedSample w m s).vehicle = s.vehicle ∧ (shedSample w m s).tracker = s.tracker
      ∧ (shedSample w m s).account = s.account ∧ (shedSample w m s).peers = s.peers
      ∧ (shedSample w m s).reserve = s.reserve ∧ (shedSample w m s).composer = s.composer
      ∧ (shedSample w m s).store = s.store ∧ (shedSample w m s).service = s.service
      ∧ (shedSample w m s).clock = s.clock ∧ (shedSample w m s).freeDraws = s.freeDraws
      ∧ (shedSample w m s).pending = s.pending := by
  unfold shedSample
  repeat' split
  all_goals simp

@[simp] theorem detectOverload_frame (w : WorkingCopy) (m : Int) (s : State) :
    (detectOverload w m s).vehicle = s.vehicle ∧ (detectOverload w m s).tracker = s.tracker
      ∧ (detectOverload w m s).account = s.account ∧ (detectOverload w m s).peers = s.peers
      ∧ (detectOverload w m s).reserve = s.reserve ∧ (detectOverload w m s).composer = s.composer
      ∧ (detectOverload w m s).store = s.store ∧ (detectOverload w m s).service = s.service
      ∧ (detectOverload w m s).clock = s.clock ∧ (detectOverload w m s).freeDraws = s.freeDraws
      ∧ (detectOverload w m s).pending = s.pending := by
  unfold detectOverload
  repeat' split
  all_goals simp

@[simp] theorem acceptSample_frame (w : WorkingCopy) (m : Int) (s : State) :
    (acceptSample w m s).vehicle = s.vehicle ∧ (acceptSample w m s).tracker = s.tracker
      ∧ (acceptSample w m s).account = s.account ∧ (acceptSample w m s).peers = s.peers
      ∧ (acceptSample w m s).reserve = s.reserve ∧ (acceptSample w m s).store = s.store
      ∧ (acceptSample w m s).service = s.service ∧ (acceptSample w m s).clock = s.clock
      ∧ (acceptSample w m s).freeDraws = s.freeDraws ∧ (acceptSample w m s).pending = s.pending := by
  unfold acceptSample
  repeat' split
  all_goals simp

@[simp] theorem sampleWithoutCopy_frame (m : Int) (s : State) :
    (sampleWithoutCopy m s).vehicle = s.vehicle ∧ (sampleWithoutCopy m s).tracker = s.tracker
      ∧ (sampleWithoutCopy m s).account = s.account ∧ (sampleWithoutCopy m s).link = s.link
      ∧ (sampleWithoutCopy m s).peers = s.peers ∧ (sampleWithoutCopy m s).share = s.share
      ∧ (sampleWithoutCopy m s).reserve = s.reserve ∧ (sampleWithoutCopy m s).store = s.store
      ∧ (sampleWithoutCopy m s).service = s.service ∧ (sampleWithoutCopy m s).clock = s.clock
      ∧ (sampleWithoutCopy m s).pending = s.pending := by
  unfold sampleWithoutCopy
  simp

@[simp] theorem acceptByRole_frame (r : WireReport) (state : Converter) (s : State) :
    (acceptByRole r state s).peers = s.peers ∧ (acceptByRole r state s).reserve = s.reserve
      ∧ (acceptByRole r state s).store = s.store ∧ (acceptByRole r state s).clock = s.clock
      ∧ (acceptByRole r state s).freeDraws = s.freeDraws ∧ (acceptByRole r state s).pending = s.pending := by
  unfold acceptByRole
  repeat' split
  all_goals simp

@[simp] theorem receiveReport_frame (r : WireReport) (s : State) :
    (receiveReport r s).peers = s.peers ∧ (receiveReport r s).reserve = s.reserve
      ∧ (receiveReport r s).store = s.store ∧ (receiveReport r s).clock = s.clock
      ∧ (receiveReport r s).pending = s.pending := by
  unfold receiveReport
  repeat' split
  all_goals simp

@[simp] theorem periodSilence_frame (s : State) :
    (periodSilence s).link = s.link ∧ (periodSilence s).peers = s.peers ∧ (periodSilence s).reserve = s.reserve
      ∧ (periodSilence s).store = s.store ∧ (periodSilence s).clock = s.clock
      ∧ (periodSilence s).freeDraws = s.freeDraws ∧ (periodSilence s).pending = s.pending := by
  unfold periodSilence
  simp

@[simp] theorem periodClamps_frame (s : State) :
    (periodClamps s).vehicle = s.vehicle ∧ (periodClamps s).tracker = s.tracker
      ∧ (periodClamps s).account = s.account ∧ (periodClamps s).link = s.link ∧ (periodClamps s).peers = s.peers
      ∧ (periodClamps s).share = s.share ∧ (periodClamps s).reserve = s.reserve ∧ (periodClamps s).store = s.store
      ∧ (periodClamps s).service = s.service ∧ (periodClamps s).clock = s.clock
      ∧ (periodClamps s).freeDraws = s.freeDraws ∧ (periodClamps s).pending = s.pending := by
  unfold periodClamps
  simp

@[simp] theorem periodRamp_frame (w : WorkingCopy) (s : State) :
    (periodRamp w s).vehicle = s.vehicle ∧ (periodRamp w s).tracker = s.tracker
      ∧ (periodRamp w s).account = s.account ∧ (periodRamp w s).link = s.link ∧ (periodRamp w s).peers = s.peers
      ∧ (periodRamp w s).share = s.share ∧ (periodRamp w s).reserve = s.reserve ∧ (periodRamp w s).store = s.store
      ∧ (periodRamp w s).service = s.service ∧ (periodRamp w s).clock = s.clock
      ∧ (periodRamp w s).freeDraws = s.freeDraws ∧ (periodRamp w s).pending = s.pending := by
  unfold periodRamp
  simp

@[simp] theorem periodTarget_frame (s : State) :
    (periodTarget s).vehicle = s.vehicle ∧ (periodTarget s).tracker = s.tracker
      ∧ (periodTarget s).account = s.account ∧ (periodTarget s).link = s.link ∧ (periodTarget s).peers = s.peers
      ∧ (periodTarget s).share = s.share ∧ (periodTarget s).reserve = s.reserve ∧ (periodTarget s).store = s.store
      ∧ (periodTarget s).service = s.service ∧ (periodTarget s).clock = s.clock
      ∧ (periodTarget s).freeDraws = s.freeDraws ∧ (periodTarget s).pending = s.pending := by
  unfold periodTarget
  simp

@[simp] theorem periodWake_frame (s : State) :
    (periodWake s).vehicle = s.vehicle ∧ (periodWake s).tracker = s.tracker ∧ (periodWake s).account = s.account
      ∧ (periodWake s).link = s.link ∧ (periodWake s).peers = s.peers ∧ (periodWake s).share = s.share
      ∧ (periodWake s).reserve = s.reserve ∧ (periodWake s).store = s.store ∧ (periodWake s).service = s.service
      ∧ (periodWake s).clock = s.clock ∧ (periodWake s).freeDraws = s.freeDraws ∧ (periodWake s).pending = s.pending := by
  unfold periodWake
  repeat' split
  all_goals simp

@[simp] theorem periodIdle_frame (w : WorkingCopy) (s : State) :
    (periodIdle w s).vehicle = s.vehicle ∧ (periodIdle w s).tracker = s.tracker
      ∧ (periodIdle w s).account = s.account ∧ (periodIdle w s).link = s.link ∧ (periodIdle w s).peers = s.peers
      ∧ (periodIdle w s).share = s.share ∧ (periodIdle w s).reserve = s.reserve ∧ (periodIdle w s).store = s.store
      ∧ (periodIdle w s).service = s.service ∧ (periodIdle w s).clock = s.clock
      ∧ (periodIdle w s).freeDraws = s.freeDraws ∧ (periodIdle w s).pending = s.pending := by
  unfold periodIdle
  repeat' split
  all_goals simp

@[simp] theorem periodOffer_frame (s : State) :
    (periodOffer s).vehicle = s.vehicle ∧ (periodOffer s).tracker = s.tracker ∧ (periodOffer s).account = s.account
      ∧ (periodOffer s).link = s.link ∧ (periodOffer s).peers = s.peers ∧ (periodOffer s).share = s.share
      ∧ (periodOffer s).reserve = s.reserve ∧ (periodOffer s).store = s.store ∧ (periodOffer s).service = s.service
      ∧ (periodOffer s).clock = s.clock ∧ (periodOffer s).freeDraws = s.freeDraws
      ∧ (periodOffer s).pending = s.pending := by
  unfold periodOffer
  simp

@[simp] theorem periodMode_frame (w : WorkingCopy) (s : State) :
    (periodMode w s).link = s.link ∧ (periodMode w s).peers = s.peers ∧ (periodMode w s).reserve = s.reserve
      ∧ (periodMode w s).store = s.store ∧ (periodMode w s).clock = s.clock
      ∧ (periodMode w s).freeDraws = s.freeDraws ∧ (periodMode w s).pending = s.pending := by
  unfold periodMode
  simp

@[simp] theorem periodDither_frame (w : WorkingCopy) (s : State) :
    (periodDither w s).vehicle = s.vehicle ∧ (periodDither w s).tracker = s.tracker
      ∧ (periodDither w s).account = s.account ∧ (periodDither w s).link = s.link
      ∧ (periodDither w s).peers = s.peers ∧ (periodDither w s).share = s.share
      ∧ (periodDither w s).reserve = s.reserve ∧ (periodDither w s).store = s.store
      ∧ (periodDither w s).service = s.service ∧ (periodDither w s).clock = s.clock
      ∧ (periodDither w s).freeDraws = s.freeDraws ∧ (periodDither w s).pending = s.pending := by
  unfold periodDither
  repeat' split
  all_goals simp

@[simp] theorem periodSend_frame (s : State) :
    (periodSend s).vehicle = s.vehicle ∧ (periodSend s).tracker = s.tracker ∧ (periodSend s).account = s.account
      ∧ (periodSend s).link = s.link ∧ (periodSend s).peers = s.peers ∧ (periodSend s).share = s.share
      ∧ (periodSend s).reserve = s.reserve ∧ (periodSend s).store = s.store ∧ (periodSend s).service = s.service
      ∧ (periodSend s).clock = s.clock ∧ (periodSend s).freeDraws = s.freeDraws ∧ (periodSend s).pending = s.pending := by
  unfold periodSend
  simp

@[simp] theorem periodPermit_frame (s : State) :
    (periodPermit s).tracker = s.tracker ∧ (periodPermit s).account = s.account ∧ (periodPermit s).link = s.link
      ∧ (periodPermit s).peers = s.peers ∧ (periodPermit s).share = s.share ∧ (periodPermit s).reserve = s.reserve
      ∧ (periodPermit s).composer = s.composer ∧ (periodPermit s).store = s.store
      ∧ (periodPermit s).service = s.service ∧ (periodPermit s).clock = s.clock
      ∧ (periodPermit s).freeDraws = s.freeDraws ∧ (periodPermit s).pending = s.pending := by
  unfold periodPermit
  repeat' split
  all_goals simp

@[simp] theorem controlPeriod_frame (w : WorkingCopy) (s : State) :
    (controlPeriod w s).link = s.link ∧ (controlPeriod w s).peers = s.peers
      ∧ (controlPeriod w s).reserve = s.reserve ∧ (controlPeriod w s).store = s.store
      ∧ (controlPeriod w s).clock = s.clock ∧ (controlPeriod w s).freeDraws = s.freeDraws
      ∧ (controlPeriod w s).pending = s.pending := by
  unfold controlPeriod
  simp

@[simp] theorem controlPeriodTaken_frame (s : State) :
    (controlPeriodTaken s).link = s.link ∧ (controlPeriodTaken s).peers = s.peers
      ∧ (controlPeriodTaken s).reserve = s.reserve ∧ (controlPeriodTaken s).store = s.store
      ∧ (controlPeriodTaken s).clock = s.clock ∧ (controlPeriodTaken s).freeDraws = s.freeDraws
      ∧ (controlPeriodTaken s).pending = s.pending := by
  unfold controlPeriodTaken
  repeat' split
  all_goals simp

@[simp] theorem idleExpired_frame (s : State) :
    (idleExpired s).vehicle = s.vehicle ∧ (idleExpired s).tracker = s.tracker ∧ (idleExpired s).account = s.account
      ∧ (idleExpired s).link = s.link ∧ (idleExpired s).peers = s.peers ∧ (idleExpired s).share = s.share
      ∧ (idleExpired s).reserve = s.reserve ∧ (idleExpired s).store = s.store ∧ (idleExpired s).service = s.service
      ∧ (idleExpired s).clock = s.clock ∧ (idleExpired s).freeDraws = s.freeDraws
      ∧ (idleExpired s).pending = s.pending := by
  unfold idleExpired
  repeat' split
  all_goals simp

@[simp] theorem enterRunning_frame (w : WorkingCopy) (s : State) :
    (enterRunning w s).vehicle = s.vehicle ∧ (enterRunning w s).tracker = s.tracker
      ∧ (enterRunning w s).account = s.account ∧ (enterRunning w s).composer = s.composer
      ∧ (enterRunning w s).store = s.store ∧ (enterRunning w s).clock = s.clock
      ∧ (enterRunning w s).freeDraws = s.freeDraws ∧ (enterRunning w s).pending = s.pending := by
  unfold enterRunning
  simp

@[simp] theorem putAnnounceInHand_frame (w : WorkingCopy) (s : State) :
    (putAnnounceInHand w s).vehicle = s.vehicle ∧ (putAnnounceInHand w s).tracker = s.tracker
      ∧ (putAnnounceInHand w s).account = s.account ∧ (putAnnounceInHand w s).peers = s.peers
      ∧ (putAnnounceInHand w s).share = s.share ∧ (putAnnounceInHand w s).reserve = s.reserve
      ∧ (putAnnounceInHand w s).composer = s.composer ∧ (putAnnounceInHand w s).store = s.store
      ∧ (putAnnounceInHand w s).service = s.service ∧ (putAnnounceInHand w s).clock = s.clock
      ∧ (putAnnounceInHand w s).freeDraws = s.freeDraws ∧ (putAnnounceInHand w s).pending = s.pending := by
  unfold putAnnounceInHand
  simp

@[simp] theorem senseIdle_frame (micros : Nat) (s : State) :
    (senseIdle micros s).account = s.account ∧ (senseIdle micros s).store = s.store
      ∧ (senseIdle micros s).service = s.service ∧ (senseIdle micros s).freeDraws = s.freeDraws
      ∧ (senseIdle micros s).pending = s.pending := by
  unfold senseIdle
  split <;> simp

@[simp] theorem sendReady_frame (s : State) :
    (sendReady s).vehicle = s.vehicle ∧ (sendReady s).tracker = s.tracker
      ∧ (sendReady s).account = s.account ∧ (sendReady s).peers = s.peers
      ∧ (sendReady s).share = s.share ∧ (sendReady s).reserve = s.reserve
      ∧ (sendReady s).composer = s.composer ∧ (sendReady s).store = s.store
      ∧ (sendReady s).service = s.service ∧ (sendReady s).clock = s.clock
      ∧ (sendReady s).freeDraws = s.freeDraws ∧ (sendReady s).pending = s.pending := by
  unfold sendReady
  simp

@[simp] theorem transmissionStarted_frame (micros : Nat) (s : State) :
    (transmissionStarted micros s).account = s.account ∧ (transmissionStarted micros s).store = s.store
      ∧ (transmissionStarted micros s).service = s.service ∧ (transmissionStarted micros s).freeDraws = s.freeDraws
      ∧ (transmissionStarted micros s).pending = s.pending := by
  unfold transmissionStarted
  repeat' split
  all_goals simp

@[simp] theorem announceLeaves_frame (w : WorkingCopy) (s : State) :
    (announceLeaves w s).vehicle = s.vehicle ∧ (announceLeaves w s).tracker = s.tracker
      ∧ (announceLeaves w s).account = s.account ∧ (announceLeaves w s).peers = s.peers
      ∧ (announceLeaves w s).composer = s.composer ∧ (announceLeaves w s).store = s.store
      ∧ (announceLeaves w s).clock = s.clock ∧ (announceLeaves w s).freeDraws = s.freeDraws
      ∧ (announceLeaves w s).pending = s.pending := by
  unfold announceLeaves
  simp

@[simp] theorem collidedAnnounce_frame (w : WorkingCopy) (attempts : Nat) (s : State) :
    (collidedAnnounce w attempts s).vehicle = s.vehicle ∧ (collidedAnnounce w attempts s).tracker = s.tracker
      ∧ (collidedAnnounce w attempts s).account = s.account ∧ (collidedAnnounce w attempts s).peers = s.peers
      ∧ (collidedAnnounce w attempts s).composer = s.composer ∧ (collidedAnnounce w attempts s).store = s.store
      ∧ (collidedAnnounce w attempts s).clock = s.clock ∧ (collidedAnnounce w attempts s).freeDraws = s.freeDraws
      ∧ (collidedAnnounce w attempts s).pending = s.pending := by
  unfold collidedAnnounce
  repeat' split
  all_goals simp

@[simp] theorem collided_frame (s : State) :
    (collided s).vehicle = s.vehicle ∧ (collided s).tracker = s.tracker ∧ (collided s).account = s.account
      ∧ (collided s).peers = s.peers ∧ (collided s).composer = s.composer ∧ (collided s).store = s.store
      ∧ (collided s).clock = s.clock ∧ (collided s).freeDraws = s.freeDraws ∧ (collided s).pending = s.pending := by
  unfold collided
  repeat' split
  all_goals simp

@[simp] theorem completed_frame (s : State) :
    (completed s).vehicle = s.vehicle ∧ (completed s).tracker = s.tracker ∧ (completed s).account = s.account
      ∧ (completed s).peers = s.peers ∧ (completed s).composer = s.composer ∧ (completed s).store = s.store
      ∧ (completed s).clock = s.clock ∧ (completed s).freeDraws = s.freeDraws ∧ (completed s).pending = s.pending := by
  unfold completed
  repeat' split
  all_goals simp

@[simp] theorem countGood_frame (s : State) :
    (countGood s).vehicle = s.vehicle ∧ (countGood s).tracker = s.tracker ∧ (countGood s).account = s.account
      ∧ (countGood s).peers = s.peers ∧ (countGood s).share = s.share ∧ (countGood s).reserve = s.reserve
      ∧ (countGood s).composer = s.composer ∧ (countGood s).store = s.store ∧ (countGood s).service = s.service
      ∧ (countGood s).clock = s.clock ∧ (countGood s).freeDraws = s.freeDraws ∧ (countGood s).pending = s.pending := by
  unfold countGood
  simp

@[simp] theorem routeAnnounce_frame (f : WireAnnounce) (s : State) :
    (routeAnnounce f s).vehicle = s.vehicle ∧ (routeAnnounce f s).tracker = s.tracker
      ∧ (routeAnnounce f s).account = s.account ∧ (routeAnnounce f s).composer = s.composer
      ∧ (routeAnnounce f s).store = s.store ∧ (routeAnnounce f s).clock = s.clock
      ∧ (routeAnnounce f s).freeDraws = s.freeDraws ∧ (routeAnnounce f s).pending = s.pending := by
  unfold routeAnnounce
  repeat' split
  all_goals simp

@[simp] theorem handShed_frame (f : WireShed) (s : State) :
    (handShed f s).vehicle = s.vehicle ∧ (handShed f s).tracker = s.tracker ∧ (handShed f s).account = s.account
      ∧ (handShed f s).link = s.link ∧ (handShed f s).peers = s.peers ∧ (handShed f s).store = s.store
      ∧ (handShed f s).clock = s.clock ∧ (handShed f s).freeDraws = s.freeDraws ∧ (handShed f s).pending = s.pending := by
  unfold handShed
  repeat' split
  all_goals simp

@[simp] theorem routeShed_frame (f : WireShed) (s : State) :
    (routeShed f s).vehicle = s.vehicle ∧ (routeShed f s).tracker = s.tracker ∧ (routeShed f s).account = s.account
      ∧ (routeShed f s).store = s.store ∧ (routeShed f s).clock = s.clock ∧ (routeShed f s).freeDraws = s.freeDraws
      ∧ (routeShed f s).pending = s.pending := by
  unfold routeShed
  repeat' split
  all_goals simp

@[simp] theorem decideReception_frame (r : Reception) (s : State) :
    (decideReception r s).vehicle = s.vehicle ∧ (decideReception r s).tracker = s.tracker
      ∧ (decideReception r s).account = s.account ∧ (decideReception r s).store = s.store
      ∧ (decideReception r s).clock = s.clock ∧ (decideReception r s).freeDraws = s.freeDraws
      ∧ (decideReception r s).pending = s.pending := by
  unfold decideReception
  repeat' split
  all_goals simp

@[simp] theorem receptionEnds_frame (fresh : Bool) (characters : Nat) (s : State) :
    (receptionEnds fresh characters s).account = s.account ∧ (receptionEnds fresh characters s).store = s.store
      ∧ (receptionEnds fresh characters s).service = s.service
      ∧ (receptionEnds fresh characters s).freeDraws = s.freeDraws
      ∧ (receptionEnds fresh characters s).pending = s.pending := by
  unfold receptionEnds
  simp

@[simp] theorem receive_frame (fresh : Bool) (characters : Nat) (r : Reception) (s : State) :
    (receive fresh characters r s).account = s.account ∧ (receive fresh characters r s).store = s.store
      ∧ (receive fresh characters r s).freeDraws = s.freeDraws
      ∧ (receive fresh characters r s).pending = s.pending := by
  unfold receive
  split <;> simp

@[simp] theorem removeEntry_frame (station : Nat) (s : State) :
    (removeEntry station s).vehicle = s.vehicle ∧ (removeEntry station s).tracker = s.tracker
      ∧ (removeEntry station s).account = s.account ∧ (removeEntry station s).link = s.link
      ∧ (removeEntry station s).composer = s.composer ∧ (removeEntry station s).store = s.store
      ∧ (removeEntry station s).clock = s.clock ∧ (removeEntry station s).freeDraws = s.freeDraws
      ∧ (removeEntry station s).pending = s.pending := by
  unfold removeEntry
  simp

@[simp] theorem endShedHold_frame (s : State) :
    (endShedHold s).vehicle = s.vehicle ∧ (endShedHold s).tracker = s.tracker ∧ (endShedHold s).account = s.account
      ∧ (endShedHold s).link = s.link ∧ (endShedHold s).peers = s.peers ∧ (endShedHold s).reserve = s.reserve
      ∧ (endShedHold s).composer = s.composer ∧ (endShedHold s).store = s.store
      ∧ (endShedHold s).service = s.service ∧ (endShedHold s).clock = s.clock
      ∧ (endShedHold s).freeDraws = s.freeDraws ∧ (endShedHold s).pending = s.pending := by
  unfold endShedHold
  simp

@[simp] theorem startMeasurement_frame (t : Nat) (s : State) :
    (startMeasurement t s).vehicle = s.vehicle ∧ (startMeasurement t s).tracker = s.tracker
      ∧ (startMeasurement t s).account = s.account ∧ (startMeasurement t s).link = s.link
      ∧ (startMeasurement t s).peers = s.peers ∧ (startMeasurement t s).share = s.share
      ∧ (startMeasurement t s).composer = s.composer ∧ (startMeasurement t s).store = s.store
      ∧ (startMeasurement t s).service = s.service ∧ (startMeasurement t s).clock = s.clock
      ∧ (startMeasurement t s).freeDraws = s.freeDraws ∧ (startMeasurement t s).pending = s.pending := by
  unfold startMeasurement
  simp

@[simp] theorem countEdge_frame (w : WorkingCopy) (t : Nat) (m : Measurement) (s : State) :
    (countEdge w t m s).vehicle = s.vehicle ∧ (countEdge w t m s).tracker = s.tracker
      ∧ (countEdge w t m s).account = s.account ∧ (countEdge w t m s).link = s.link
      ∧ (countEdge w t m s).peers = s.peers ∧ (countEdge w t m s).share = s.share
      ∧ (countEdge w t m s).composer = s.composer ∧ (countEdge w t m s).store = s.store
      ∧ (countEdge w t m s).clock = s.clock ∧ (countEdge w t m s).freeDraws = s.freeDraws
      ∧ (countEdge w t m s).pending = s.pending := by
  unfold countEdge
  repeat' split
  all_goals simp

@[simp] theorem mainsEdgeTaken_frame (s : State) :
    (mainsEdgeTaken s).vehicle = s.vehicle ∧ (mainsEdgeTaken s).tracker = s.tracker
      ∧ (mainsEdgeTaken s).account = s.account ∧ (mainsEdgeTaken s).link = s.link
      ∧ (mainsEdgeTaken s).peers = s.peers ∧ (mainsEdgeTaken s).share = s.share
      ∧ (mainsEdgeTaken s).composer = s.composer ∧ (mainsEdgeTaken s).store = s.store
      ∧ (mainsEdgeTaken s).clock = s.clock ∧ (mainsEdgeTaken s).freeDraws = s.freeDraws
      ∧ (mainsEdgeTaken s).pending = s.pending := by
  unfold mainsEdgeTaken
  repeat' split
  all_goals simp

@[simp] theorem edgeTime_frame (timeMicros : Nat) (s : State) :
    (s.edgeTime timeMicros).account = s.account ∧ (s.edgeTime timeMicros).store = s.store
      ∧ (s.edgeTime timeMicros).service = s.service ∧ (s.edgeTime timeMicros).freeDraws = s.freeDraws
      ∧ (s.edgeTime timeMicros).pending = s.pending := by
  unfold State.edgeTime
  simp

@[simp] theorem abandonMeasurement_frame (w : WorkingCopy) (s : State) :
    (abandonMeasurement w s).vehicle = s.vehicle ∧ (abandonMeasurement w s).tracker = s.tracker
      ∧ (abandonMeasurement w s).account = s.account ∧ (abandonMeasurement w s).link = s.link
      ∧ (abandonMeasurement w s).peers = s.peers ∧ (abandonMeasurement w s).share = s.share
      ∧ (abandonMeasurement w s).composer = s.composer ∧ (abandonMeasurement w s).store = s.store
      ∧ (abandonMeasurement w s).clock = s.clock ∧ (abandonMeasurement w s).freeDraws = s.freeDraws
      ∧ (abandonMeasurement w s).pending = s.pending := by
  unfold abandonMeasurement
  simp

@[simp] theorem raiseClamped_frame (s : State) :
    (raiseClamped s).vehicle = s.vehicle ∧ (raiseClamped s).tracker = s.tracker
      ∧ (raiseClamped s).account = s.account ∧ (raiseClamped s).link = s.link ∧ (raiseClamped s).peers = s.peers
      ∧ (raiseClamped s).share = s.share ∧ (raiseClamped s).reserve = s.reserve
      ∧ (raiseClamped s).composer = s.composer ∧ (raiseClamped s).store = s.store ∧ (raiseClamped s).clock = s.clock
      ∧ (raiseClamped s).freeDraws = s.freeDraws ∧ (raiseClamped s).pending = s.pending := by
  unfold raiseClamped
  repeat' split
  all_goals simp

@[simp] theorem endWithError_frame (e : LoadResult) (s : State) :
    (endWithError e s).vehicle = s.vehicle ∧ (endWithError e s).tracker = s.tracker
      ∧ (endWithError e s).account = s.account ∧ (endWithError e s).composer = s.composer
      ∧ (endWithError e s).clock = s.clock ∧ (endWithError e s).freeDraws = s.freeDraws
      ∧ (endWithError e s).pending = s.pending := by
  unfold endWithError
  simp

@[simp] theorem endWithCopy_frame (s : State) :
    (endWithCopy s).clock = s.clock ∧ (endWithCopy s).freeDraws = s.freeDraws ∧ (endWithCopy s).pending = s.pending := by
  unfold endWithCopy
  simp

@[simp] theorem endLoad_frame (s : State) :
    (endLoad s).clock = s.clock ∧ (endLoad s).freeDraws = s.freeDraws ∧ (endLoad s).pending = s.pending := by
  unfold endLoad
  cases structuralError s.store.shadow <;> simp

@[simp] theorem loadCompleted_frame (s : State) :
    (loadCompleted s).clock = s.clock ∧ (loadCompleted s).freeDraws = s.freeDraws
      ∧ (loadCompleted s).pending = s.pending := by
  unfold loadCompleted
  repeat' split
  all_goals simp

@[simp] theorem tearPage_frame (s : State) :
    (tearPage s).vehicle = s.vehicle ∧ (tearPage s).tracker = s.tracker ∧ (tearPage s).account = s.account
      ∧ (tearPage s).link = s.link ∧ (tearPage s).peers = s.peers ∧ (tearPage s).share = s.share
      ∧ (tearPage s).reserve = s.reserve ∧ (tearPage s).composer = s.composer ∧ (tearPage s).service = s.service
      ∧ (tearPage s).clock = s.clock ∧ (tearPage s).pending = s.pending := by
  unfold tearPage
  simp

@[simp] theorem failWriteback_frame (s : State) :
    (failWriteback s).vehicle = s.vehicle ∧ (failWriteback s).tracker = s.tracker
      ∧ (failWriteback s).account = s.account ∧ (failWriteback s).link = s.link ∧ (failWriteback s).peers = s.peers
      ∧ (failWriteback s).share = s.share ∧ (failWriteback s).reserve = s.reserve
      ∧ (failWriteback s).composer = s.composer ∧ (failWriteback s).clock = s.clock
      ∧ (failWriteback s).freeDraws = s.freeDraws ∧ (failWriteback s).pending = s.pending := by
  unfold failWriteback
  simp

@[simp] theorem finishWriteback_frame (s : State) :
    (finishWriteback s).vehicle = s.vehicle ∧ (finishWriteback s).tracker = s.tracker
      ∧ (finishWriteback s).account = s.account ∧ (finishWriteback s).link = s.link
      ∧ (finishWriteback s).peers = s.peers ∧ (finishWriteback s).share = s.share
      ∧ (finishWriteback s).reserve = s.reserve ∧ (finishWriteback s).composer = s.composer
      ∧ (finishWriteback s).clock = s.clock ∧ (finishWriteback s).freeDraws = s.freeDraws
      ∧ (finishWriteback s).pending = s.pending := by
  unfold finishWriteback
  simp

@[simp] theorem pageMatched_frame (s : State) :
    (pageMatched s).vehicle = s.vehicle ∧ (pageMatched s).tracker = s.tracker ∧ (pageMatched s).account = s.account
      ∧ (pageMatched s).link = s.link ∧ (pageMatched s).peers = s.peers ∧ (pageMatched s).share = s.share
      ∧ (pageMatched s).reserve = s.reserve ∧ (pageMatched s).composer = s.composer
      ∧ (pageMatched s).clock = s.clock ∧ (pageMatched s).freeDraws = s.freeDraws
      ∧ (pageMatched s).pending = s.pending := by
  unfold pageMatched
  repeat' split
  all_goals simp

@[simp] theorem pageWritten_frame (bytes : List Byte) (s : State) :
    (pageWritten bytes s).vehicle = s.vehicle ∧ (pageWritten bytes s).tracker = s.tracker
      ∧ (pageWritten bytes s).account = s.account ∧ (pageWritten bytes s).link = s.link
      ∧ (pageWritten bytes s).peers = s.peers ∧ (pageWritten bytes s).share = s.share
      ∧ (pageWritten bytes s).reserve = s.reserve ∧ (pageWritten bytes s).composer = s.composer
      ∧ (pageWritten bytes s).service = s.service ∧ (pageWritten bytes s).clock = s.clock
      ∧ (pageWritten bytes s).freeDraws = s.freeDraws ∧ (pageWritten bytes s).pending = s.pending := by
  unfold pageWritten
  simp

@[simp] theorem pageReadBack_frame (bytes : List Byte) (s : State) :
    (pageReadBack bytes s).vehicle = s.vehicle ∧ (pageReadBack bytes s).tracker = s.tracker
      ∧ (pageReadBack bytes s).account = s.account ∧ (pageReadBack bytes s).link = s.link
      ∧ (pageReadBack bytes s).peers = s.peers ∧ (pageReadBack bytes s).share = s.share
      ∧ (pageReadBack bytes s).reserve = s.reserve ∧ (pageReadBack bytes s).composer = s.composer
      ∧ (pageReadBack bytes s).clock = s.clock ∧ (pageReadBack bytes s).freeDraws = s.freeDraws
      ∧ (pageReadBack bytes s).pending = s.pending := by
  unfold pageReadBack
  repeat' split
  all_goals simp

@[simp] theorem memoryTimedOut_frame (answered : Nat) (s : State) :
    (memoryTimedOut answered s).vehicle = s.vehicle ∧ (memoryTimedOut answered s).tracker = s.tracker
      ∧ (memoryTimedOut answered s).account = s.account ∧ (memoryTimedOut answered s).composer = s.composer
      ∧ (memoryTimedOut answered s).clock = s.clock ∧ (memoryTimedOut answered s).pending = s.pending := by
  unfold memoryTimedOut
  repeat' split
  all_goals simp

@[simp] theorem cutWriteback_frame (s : State) :
    (cutWriteback s).vehicle = s.vehicle ∧ (cutWriteback s).tracker = s.tracker
      ∧ (cutWriteback s).account = s.account ∧ (cutWriteback s).link = s.link ∧ (cutWriteback s).peers = s.peers
      ∧ (cutWriteback s).share = s.share ∧ (cutWriteback s).reserve = s.reserve
      ∧ (cutWriteback s).composer = s.composer ∧ (cutWriteback s).service = s.service
      ∧ (cutWriteback s).clock = s.clock ∧ (cutWriteback s).pending = s.pending := by
  unfold cutWriteback
  repeat' split
  all_goals simp

@[simp] theorem clearAttention_frame (s : State) :
    (clearAttention s).vehicle = s.vehicle ∧ (clearAttention s).tracker = s.tracker
      ∧ (clearAttention s).account = s.account ∧ (clearAttention s).link = s.link
      ∧ (clearAttention s).peers = s.peers ∧ (clearAttention s).share = s.share
      ∧ (clearAttention s).reserve = s.reserve ∧ (clearAttention s).composer = s.composer
      ∧ (clearAttention s).store = s.store ∧ (clearAttention s).clock = s.clock
      ∧ (clearAttention s).freeDraws = s.freeDraws ∧ (clearAttention s).pending = s.pending := by
  unfold clearAttention
  simp

@[simp] theorem releaseBlocks_frame (s : State) :
    (releaseBlocks s).store = s.store ∧ (releaseBlocks s).service = s.service ∧ (releaseBlocks s).clock = s.clock
      ∧ (releaseBlocks s).freeDraws = s.freeDraws ∧ (releaseBlocks s).pending = s.pending := by
  unfold releaseBlocks
  simp

@[simp] theorem resealShadow_frame (s : State) :
    (resealShadow s).vehicle = s.vehicle ∧ (resealShadow s).tracker = s.tracker
      ∧ (resealShadow s).account = s.account ∧ (resealShadow s).link = s.link ∧ (resealShadow s).peers = s.peers
      ∧ (resealShadow s).share = s.share ∧ (resealShadow s).reserve = s.reserve
      ∧ (resealShadow s).composer = s.composer ∧ (resealShadow s).service = s.service
      ∧ (resealShadow s).clock = s.clock ∧ (resealShadow s).freeDraws = s.freeDraws
      ∧ (resealShadow s).pending = s.pending := by
  unfold resealShadow
  simp

@[simp] theorem serviceRestart_frame (s : State) :
    (serviceRestart s).clock = s.clock ∧ (serviceRestart s).freeDraws = s.freeDraws
      ∧ (serviceRestart s).pending = s.pending := by
  unfold serviceRestart
  simp

@[simp] theorem takeReadItem_frame (item index : Byte) (s : State) :
    (takeReadItem item index s).vehicle = s.vehicle ∧ (takeReadItem item index s).tracker = s.tracker
      ∧ (takeReadItem item index s).account = s.account ∧ (takeReadItem item index s).link = s.link
      ∧ (takeReadItem item index s).peers = s.peers ∧ (takeReadItem item index s).share = s.share
      ∧ (takeReadItem item index s).reserve = s.reserve ∧ (takeReadItem item index s).composer = s.composer
      ∧ (takeReadItem item index s).store = s.store ∧ (takeReadItem item index s).clock = s.clock
      ∧ (takeReadItem item index s).freeDraws = s.freeDraws ∧ (takeReadItem item index s).pending = s.pending := by
  unfold takeReadItem
  repeat' split
  all_goals simp

@[simp] theorem takeWriteShadow_frame (offset : Byte) (data : List Byte) (s : State) :
    (takeWriteShadow offset data s).vehicle = s.vehicle ∧ (takeWriteShadow offset data s).tracker = s.tracker
      ∧ (takeWriteShadow offset data s).account = s.account ∧ (takeWriteShadow offset data s).link = s.link
      ∧ (takeWriteShadow offset data s).peers = s.peers ∧ (takeWriteShadow offset data s).share = s.share
      ∧ (takeWriteShadow offset data s).reserve = s.reserve ∧ (takeWriteShadow offset data s).composer = s.composer
      ∧ (takeWriteShadow offset data s).clock = s.clock ∧ (takeWriteShadow offset data s).freeDraws = s.freeDraws
      ∧ (takeWriteShadow offset data s).pending = s.pending := by
  unfold takeWriteShadow
  repeat' split
  all_goals simp

@[simp] theorem startWriteback_frame (s : State) :
    (startWriteback s).vehicle = s.vehicle ∧ (startWriteback s).tracker = s.tracker
      ∧ (startWriteback s).account = s.account ∧ (startWriteback s).link = s.link
      ∧ (startWriteback s).peers = s.peers ∧ (startWriteback s).share = s.share
      ∧ (startWriteback s).reserve = s.reserve ∧ (startWriteback s).composer = s.composer
      ∧ (startWriteback s).service = s.service ∧ (startWriteback s).clock = s.clock
      ∧ (startWriteback s).freeDraws = s.freeDraws ∧ (startWriteback s).pending = s.pending := by
  unfold startWriteback
  simp

@[simp] theorem takeWriteback_frame (s : State) :
    (takeWriteback s).vehicle = s.vehicle ∧ (takeWriteback s).tracker = s.tracker
      ∧ (takeWriteback s).account = s.account ∧ (takeWriteback s).link = s.link ∧ (takeWriteback s).peers = s.peers
      ∧ (takeWriteback s).share = s.share ∧ (takeWriteback s).reserve = s.reserve
      ∧ (takeWriteback s).composer = s.composer ∧ (takeWriteback s).clock = s.clock
      ∧ (takeWriteback s).freeDraws = s.freeDraws ∧ (takeWriteback s).pending = s.pending := by
  unfold takeWriteback
  repeat' split
  all_goals simp

@[simp] theorem takeRestart_frame (s : State) :
    (takeRestart s).clock = s.clock ∧ (takeRestart s).freeDraws = s.freeDraws ∧ (takeRestart s).pending = s.pending := by
  unfold takeRestart
  repeat' split
  all_goals simp

@[simp] theorem takeLooptestStart_frame (s : State) :
    (takeLooptestStart s).tracker = s.tracker ∧ (takeLooptestStart s).account = s.account
      ∧ (takeLooptestStart s).link = s.link ∧ (takeLooptestStart s).peers = s.peers
      ∧ (takeLooptestStart s).share = s.share ∧ (takeLooptestStart s).reserve = s.reserve
      ∧ (takeLooptestStart s).composer = s.composer ∧ (takeLooptestStart s).store = s.store
      ∧ (takeLooptestStart s).clock = s.clock ∧ (takeLooptestStart s).freeDraws = s.freeDraws
      ∧ (takeLooptestStart s).pending = s.pending := by
  unfold takeLooptestStart
  repeat' split
  all_goals simp

@[simp] theorem takeLooptestStop_frame (s : State) :
    (takeLooptestStop s).tracker = s.tracker ∧ (takeLooptestStop s).account = s.account
      ∧ (takeLooptestStop s).link = s.link ∧ (takeLooptestStop s).peers = s.peers
      ∧ (takeLooptestStop s).share = s.share ∧ (takeLooptestStop s).reserve = s.reserve
      ∧ (takeLooptestStop s).composer = s.composer ∧ (takeLooptestStop s).store = s.store
      ∧ (takeLooptestStop s).clock = s.clock ∧ (takeLooptestStop s).freeDraws = s.freeDraws
      ∧ (takeLooptestStop s).pending = s.pending := by
  unfold takeLooptestStop
  repeat' split
  all_goals simp

@[simp] theorem takeAttnRead_frame (s : State) :
    (takeAttnRead s).vehicle = s.vehicle ∧ (takeAttnRead s).tracker = s.tracker
      ∧ (takeAttnRead s).account = s.account ∧ (takeAttnRead s).link = s.link ∧ (takeAttnRead s).peers = s.peers
      ∧ (takeAttnRead s).share = s.share ∧ (takeAttnRead s).reserve = s.reserve
      ∧ (takeAttnRead s).composer = s.composer ∧ (takeAttnRead s).store = s.store ∧ (takeAttnRead s).clock = s.clock
      ∧ (takeAttnRead s).freeDraws = s.freeDraws ∧ (takeAttnRead s).pending = s.pending := by
  unfold takeAttnRead
  simp

@[simp] theorem takeAttnRearm_frame (s : State) :
    (takeAttnRearm s).vehicle = s.vehicle ∧ (takeAttnRearm s).tracker = s.tracker
      ∧ (takeAttnRearm s).account = s.account ∧ (takeAttnRearm s).link = s.link ∧ (takeAttnRearm s).peers = s.peers
      ∧ (takeAttnRearm s).share = s.share ∧ (takeAttnRearm s).reserve = s.reserve
      ∧ (takeAttnRearm s).composer = s.composer ∧ (takeAttnRearm s).store = s.store
      ∧ (takeAttnRearm s).clock = s.clock ∧ (takeAttnRearm s).freeDraws = s.freeDraws
      ∧ (takeAttnRearm s).pending = s.pending := by
  unfold takeAttnRearm
  simp

@[simp] theorem takeRequest_frame (r : Request) (s : State) :
    (takeRequest r s).clock = s.clock ∧ (takeRequest r s).freeDraws = s.freeDraws
      ∧ (takeRequest r s).pending = s.pending := by
  unfold takeRequest
  repeat' split
  all_goals simp

@[simp] theorem readTransferred_frame (clocked : Nat) (s : State) :
    (readTransferred clocked s).vehicle = s.vehicle ∧ (readTransferred clocked s).tracker = s.tracker
      ∧ (readTransferred clocked s).account = s.account ∧ (readTransferred clocked s).link = s.link
      ∧ (readTransferred clocked s).peers = s.peers ∧ (readTransferred clocked s).share = s.share
      ∧ (readTransferred clocked s).reserve = s.reserve ∧ (readTransferred clocked s).composer = s.composer
      ∧ (readTransferred clocked s).store = s.store ∧ (readTransferred clocked s).clock = s.clock
      ∧ (readTransferred clocked s).pending = s.pending := by
  unfold readTransferred
  simp

@[simp] theorem requestTransferred_frame (frame : List Byte) (s : State) :
    (requestTransferred frame s).clock = s.clock ∧ (requestTransferred frame s).freeDraws = s.freeDraws
      ∧ (requestTransferred frame s).pending = s.pending := by
  unfold requestTransferred
  cases requestOf frame <;> simp

end Sys2Proof.Machine
end

