-- ==== Sys2Proof/Laws/Safety.lean ====
section
/-! SUPPORT. How a frame is shown and composed, and the small lemmas of the terms of Safety.lean. -/

namespace Sys2Proof.Machine

/-- A frame is shown block by block; a listed block asks nothing. -/
theorem unchangedExcept_intro {l : List Block} {s t : State}
    (vehicle : .vehicle ∉ l → t.vehicle = s.vehicle) (tracker : .tracker ∉ l → t.tracker = s.tracker)
    (account : .account ∉ l → t.account = s.account) (link : .link ∉ l → t.link = s.link)
    (peers : .peers ∉ l → t.peers = s.peers) (share : .share ∉ l → t.share = s.share)
    (reserve : .reserve ∉ l → t.reserve = s.reserve) (composer : .composer ∉ l → t.composer = s.composer)
    (store : .store ∉ l → t.store = s.store) (service : .service ∉ l → t.service = s.service)
    (clock : .clock ∉ l → t.clock = s.clock) (freeDraws : .freeDraws ∉ l → t.freeDraws = s.freeDraws)
    (pending : .pending ∉ l → t.pending = s.pending) : unchangedExcept l s t := by
  intro b hb
  cases b
  exacts [vehicle hb, tracker hb, account hb, link hb, peers hb, share hb, reserve hb, composer hb, store hb,
    service hb, clock hb, freeDraws hb, pending hb]

theorem unchangedExcept_refl (l : List Block) (s : State) : unchangedExcept l s s := by
  apply unchangedExcept_intro <;> intro _ <;> rfl

/-- A frame holds for a longer list of blocks. -/
theorem unchangedExcept_mono {l k : List Block} {s t : State} (h : unchangedExcept l s t) (hlk : ∀ b ∈ l, b ∈ k) :
    unchangedExcept k s t := fun b hb => h b fun hl => hb (hlk b hl)

/-- Two frames in a row. -/
theorem unchangedExcept_trans {l : List Block} {s t u : State} (h : unchangedExcept l s t)
    (k : unchangedExcept l t u) : unchangedExcept l s u := by
  apply unchangedExcept_intro <;> intro hb
  exacts [(k .vehicle hb).trans (h .vehicle hb), (k .tracker hb).trans (h .tracker hb),
    (k .account hb).trans (h .account hb), (k .link hb).trans (h .link hb), (k .peers hb).trans (h .peers hb),
    (k .share hb).trans (h .share hb), (k .reserve hb).trans (h .reserve hb),
    (k .composer hb).trans (h .composer hb), (k .store hb).trans (h .store hb),
    (k .service hb).trans (h .service hb), (k .clock hb).trans (h .clock hb),
    (k .freeDraws hb).trans (h .freeDraws hb), (k .pending hb).trans (h .pending hb)]

end Sys2Proof.Machine
end

