-- ==== Sys2Proof/Laws/Effects.lean ====
section
/-! SUPPORT. What each shared operation does to the blocks it changes, said once, for later proofs to cite in place of
unfolding it. Laws/Frames.lean says what it leaves. -/

namespace Sys2Proof.Machine

/-! ## Bytes, frames and memory -/

/-- A two-byte field reads back. -/
theorem wordOfBytes_bytes (w : Word) : wordOfBytes (w.setWidth 8) ((w >>> 8).setWidth 8) = w := by
  unfold wordOfBytes
  apply BitVec.eq_of_getLsbD_eq
  intro i hi
  rw [BitVec.getLsbD_append]
  by_cases h : i < 8
  · simp [h]
  · have : i - 8 < 8 := by omega
    have : 8 + (i - 8) = i := by omega
    simp_all

theorem sealFrame_length (bytes : List Byte) : (sealFrame bytes).length = bytes.length + 2 := by
  simp [sealFrame, bytesOfWord]

/-- A sealed frame of at least one byte passes its CRC check. -/
theorem unsealFrame_sealFrame (bytes : List Byte) (h : bytes ≠ []) : unsealFrame (sealFrame bytes) = some bytes := by
  have hl : 0 < bytes.length := List.length_pos_iff.mpr h
  have htake : (sealFrame bytes).take ((sealFrame bytes).length - 2) = bytes := by
    rw [sealFrame_length]; simp [sealFrame]
  unfold unsealFrame
  rw [if_neg (by rw [sealFrame_length]; omega), htake, if_pos rfl]

/-- The image with its CRC computed in: the CRC bytes hold it, every other byte is as before (R174, R176). -/
theorem withImageCrc_effect {m : Mem} (h : Mem.wf m = true) :
    readWord (withImageCrc m) 254 = crc16 (readBytes m 0 254)
      ∧ ∀ a, a ≠ 254 → a ≠ 255 → readByte (withImageCrc m) a = readByte m a := by
  have hr : ∀ a, readByte (withImageCrc m) a =
      if 254 ≤ a ∧ a < 254 + 2 then (bytesOfWord (imageCrc m)).getD (a - 254) 0 else readByte m a := by
    intro a; unfold withImageCrc; rw [readByte_writeBytes _ _ _ _ h]; rfl
  refine ⟨?_, ?_⟩
  · unfold readWord; rw [hr, hr]; simp only [bytesOfWord, imageCrc]; exact wordOfBytes_bytes _
  · intro a h1 h2; rw [hr, if_neg (by omega)]

/-! ## Attention and responses -/

@[simp] theorem raise_service (c : Cause) (s : State) :
    (raise c s).service = { s.service with pendingCauses := withCause c s.service.pendingCauses } := rfl

@[simp] theorem respond_service (n : Nat) (status : Status) (data : List Byte) (s : State) :
    (respond n status data s).service =
      { s.service with response := some { status := status, data := data }, tx := List.replicate n 0 } := rfl

@[simp] theorem clockZeros_service (n : Nat) (s : State) :
    (clockZeros n s).service = { s.service with tx := List.replicate n 0 } := rfl

/-! ## Timers -/

@[simp] theorem due_iff (timer : Option Nat) : due timer = true ↔ timer = some 0 := by simp [due]

@[simp] theorem millis_eq (n : Nat) : millis n = n * 1000 := rfl

@[simp] theorem wholeMillis_eq (time : Nat) : wholeMillis time = time / 1000 := rfl

@[simp] theorem countDown_zero (s : State) : s.countDown 0 = s := by
  have h : ∀ n, (fun p : Peer => Peer.older 0 n p) = id := fun n => by
    funext p; simp only [Peer.older, id]; rw [show min (p.age + 0) (max p.age n) = p.age by omega]
  have e : (fun e => min (e + 0) (max e wakeLimit)) = (id : Nat → Nat) := by funext e; simp only [id]; omega
  have h' : Peer.older 0 s.silentTime = id := h _
  have r : ∀ t : Option Nat, runDown 0 t = t := fun t => by cases t <;> rfl
  simp only [State.countDown, r, h', e, Option.map_id_fun, List.map_id_fun, id]

/-- Time counted in two parts is counted as one. -/
theorem countDown_countDown (a b : Nat) (s : State) : (s.countDown a).countDown b = s.countDown (a + b) := by
  have r : ∀ t : Option Nat, runDown b (runDown a t) = runDown (a + b) t := fun t => by
    cases t <;> simp [runDown]; omega
  have o : ∀ n, Peer.older b n ∘ Peer.older a n = Peer.older (a + b) n := fun n => by
    funext p; simp only [Function.comp, Peer.older]
    rw [show min (min (p.age + a) (max p.age n) + b) (max (min (p.age + a) (max p.age n)) n)
      = min (p.age + (a + b)) (max p.age n) by omega]
  have w : (fun e => min (e + b) (max e wakeLimit)) ∘ (fun e => min (e + a) (max e wakeLimit))
      = (fun e => min (e + (a + b)) (max e wakeLimit)) := by funext e; simp only [Function.comp]; omega
  have hs : (s.countDown a).silentTime = s.silentTime := rfl
  simp only [State.countDown, r, State.silentTime, List.map_map, Option.map_map, o, w] at *

/-- All that the passing of time changes of the depot link: its timers, the idle time of the line and the receiver (R66,
R77). -/
theorem elapse_link (n : Nat) (s : State) :
    (s.elapse n).link =
      { s.link with
        listenTimer := runDown n s.link.listenTimer
        announceTimer := runDown n s.link.announceTimer
        idleTime := if s.link.transmitting = none then s.link.idleTime + n else s.link.idleTime
        receiver := s.link.receiverAfter n } := rfl

@[simp] theorem Link.receiverAfter_zero (k : Link) : k.receiverAfter 0 = k.receiver := by
  unfold Link.receiverAfter
  split <;> simp_all

/-- The receiver over a time in two parts. -/
theorem Link.receiverAfter_receiverAfter (a b : Nat) (k : Link) :
    (k.quiet a).receiverAfter b = k.receiverAfter (a + b) := by
  unfold Link.quiet Link.receiverAfter
  cases k.receiver with
  | hearing => rfl
  | ending =>
    by_cases h : k.transmitting = none
    · simp [h]
    · by_cases ha : 0 < a
      · simp [h, ha]
      · simp [h, show a = 0 by omega]
  | deaf quiet =>
    by_cases h : k.transmitting = none <;> simp [h, Nat.add_assoc]

/-- A time of 0 changes nothing. -/
@[simp] theorem elapse_zero (s : State) : s.elapse 0 = s := by
  simp [State.elapse, Link.quiet]
  rfl

/-- All that the passing of time changes of the other blocks. -/
theorem elapse_effect (n : Nat) (s : State) :
    (s.elapse n).vehicle = (s.countDown n).vehicle ∧ (s.elapse n).tracker = (s.countDown n).tracker
      ∧ (s.elapse n).peers = (s.countDown n).peers ∧ (s.elapse n).share = (s.countDown n).share
      ∧ (s.elapse n).reserve = (s.countDown n).reserve
      ∧ (s.elapse n).composer = (s.countDown n).composer ∧ (s.elapse n).clock = s.clock + n := by
  simp [State.elapse]

/-! ## The allowance -/

theorem setAllowance_allowance (a : Nat) (sh : Share) : (setAllowance a sh).allowance = a := by
  unfold setAllowance; split <;> rfl

@[simp] theorem claimHanded_share (s : State) :
    (claimHanded s).share =
      if s.tracker.claim < s.share.allowance then setAllowance s.tracker.claim s.share else s.share := by
  unfold claimHanded; split <;> simp

/-- What a handed claim does to the share engine (R113, R114). -/
theorem loweredTo_setAllowance (a : Nat) (sh : Share) :
    sh.LoweredTo a (if a < sh.allowance then setAllowance a sh else sh) := by
  constructor
  · intro h; rw [if_neg (by omega)]
  · intro h k; rw [if_pos h, setAllowance, if_neg (by omega)]
  · intro h k; rw [if_pos h, setAllowance, if_pos k]; rfl

/-- Two handed claims, the second no higher than the first, do what the second does (R114). -/
theorem Share.LoweredTo.trans {a b : Nat} {x y z : Share} (h : x.LoweredTo a y) (k : y.LoweredTo b z) (hb : b ≤ a) :
    x.LoweredTo b z := by
  by_cases ha : x.allowance ≤ a
  · rw [h.kept ha] at k; exact k
  have ha : a < x.allowance := by omega
  constructor
  · intro h1; omega
  · intro _ h2
    have hy := h.holding ha (by omega)
    by_cases hc : b < a
    · rw [k.holding (by rw [hy]; exact hc) (by rw [hy]; show 0 < min (min x.held a) b; omega), hy]
      simp only [Share.mk.injEq, true_and, and_true]; omega
    · rw [k.kept (by rw [hy]; show a ≤ b; omega), hy, show b = a by omega]
  · intro _ h2
    by_cases hc : b < a
    · by_cases hm : 0 < min x.held a
      · have hy := h.holding ha hm
        rw [k.released (by rw [hy]; exact hc) (by rw [hy]; show min (min x.held a) b = 0; omega), hy]
      · have hy := h.released ha (by omega)
        rw [k.released (by rw [hy]; exact hc) (by rw [hy]; show min 0 b = 0; omega), hy]
    · have hy := h.released ha (by rw [show a = b by omega]; exact h2)
      rw [k.kept (by rw [hy]; show a ≤ b; omega), hy, show b = a by omega]

/-- A cut to a bound leaves the allowance at the lower of the two (R108). -/
theorem cutAllowance_allowance (a : Nat) (sh : Share) :
    (if a < sh.allowance then setAllowance a sh else sh).allowance = min sh.allowance a := by
  split
  · rw [setAllowance_allowance]; omega
  · omega

/-! ## The energy account -/

@[simp] theorem updateLending_account (s : State) :
    (updateLending s).account =
      { s.account with gate := s.lending.1, lendable := s.lending.2, offer := s.offerFor s.lending.2 } := rfl

/-- After its own update the account lends by the tables of 3.4 and 3.5 (R57, R60). -/
theorem updateLending_lends (s : State) : (updateLending s).LendsByTable := by
  constructor
  · intro h
    have hr : s.tracker.readiness ≠ .topped := h
    have hl : s.lending = (.notTopped, 0) := by
      unfold State.lending; split <;> simp [lendingOf, hr]
    simp [hl, State.offerFor]
  all_goals
    intro w hw d hd n hn e he h
    have hw' : s.store.working = some w := hw
    have hd' : s.tracker.derived = some d := hd
    have hn' : s.tracker.countdown = some n := hn
    have he' : s.account.enow = some e := he
    have hr : s.tracker.readiness = .topped := h
    have hl : s.lending = lendingOf .topped n d.efloor e w.protectWindow w.lendguard := by
      simp [State.lending, hw', hd', hn', he', hr]
  · intro h1
    have : s.lending = (.inWindow, 0) := by rw [hl]; simp [lendingOf, h1]
    simp [this, State.offerFor]
  · intro h1 h2
    have : s.lending = (.belowGuard, 0) := by
      rw [hl, lendingOf, if_neg (by simp), if_neg (by omega), if_pos (by omega)]
    simp [this, State.offerFor]
  · intro h1 h2
    have : s.lending = (.isOpen, e - d.efloor - w.lendguard) := by
      rw [hl, lendingOf, if_neg (by simp), if_neg (by omega), if_neg (by omega)]
    have hp : 0 < e - d.efloor - w.lendguard := by omega
    simp only [updateLending_account, this, State.offerFor, if_pos hp, hw', Option.elim, updateLending_frame]
    exact ⟨trivial, by omega, rfl⟩

/-- The account lends by the tables of 3.4 and 3.5 in any state that agrees with one in which it does on what they read
(R58). -/
theorem State.LendsByTable.of_same {s t : State} (h : s.LendsByTable) (account : t.account = s.account)
    (readiness : t.tracker.readiness = s.tracker.readiness) (countdown : t.tracker.countdown = s.tracker.countdown)
    (derived : t.tracker.derived = s.tracker.derived) (working : t.store.working = s.store.working)
    (status : t.vehicle.lastStatus = s.vehicle.lastStatus) : t.LendsByTable := by
  constructor <;> rw [account, readiness]
  · exact h.notTopped
  all_goals rw [working, countdown, derived]
  · exact h.inWindow
  · exact h.belowGuard
  · rw [status]; exact h.isOpen

@[simp] theorem updateEstimate_account (s : State) :
    (updateEstimate s).account =
      { s.account with enow := s.vehicle.lastStatus.map fun t => estimate t s.account.delta } := rfl

/-! ## Halts and recomputes -/

theorem halt_halted {r : HaltReason} {s : State} (h : s.tracker.readiness = .halted) : halt r s = s := by
  simp [halt, h]

/-- All that a halt does to a state that is not halted (R6, R42). -/
theorem halt_effect {r : HaltReason} {s : State} (h : s.tracker.readiness ≠ .halted) :
    (halt r s).vehicle = s.vehicle.close (.halt r)
      ∧ (halt r s).tracker = s.tracker.halt r
      ∧ (halt r s).account = { s.account with gate := .notTopped, lendable := 0, offer := 0 }
      ∧ (halt r s).share = (if 0 < s.share.allowance then setAllowance 0 s.share else s.share)
      ∧ (halt r s).service = { s.service with pendingCauses := s.service.pendingCauses ||| 2#12 } := by
  have hd : halt r s = updateLending (claimHanded (raise .halted
      ((s.setTracker (s.tracker.halt r)).setVehicle (s.vehicle.close (.halt r))))) := by simp [halt, h]
  rw [hd]
  refine ⟨by simp, by simp, ?_, ?_, ?_⟩
  · simp [State.lending, Tracker.halt, State.offerFor]
  · simp [Tracker.halt]
  · simp [withCause, Cause.bit]; rfl

/-- A halt of a state that is not halted is the one R6 and R42 state. -/
theorem halt_halts {r : HaltReason} {s : State} (h : s.tracker.readiness ≠ .halted) : s.Halts r (halt r s) := by
  obtain ⟨h1, h2, h3, h4, h5⟩ := halt_effect (r := r) h
  refine ⟨⟨h1, h2, ?_⟩, h3, h5⟩
  rw [h4]; exact loweredTo_setAllowance 0 s.share

/-- After a halt nothing is lent (R59). -/
theorem halt_lends {r : HaltReason} {s : State} (h : s.tracker.readiness ≠ .halted) : (halt r s).LendsByTable := by
  rw [halt, if_neg h]; exact updateLending_lends _

/-- The tracker follows the tables in any state that agrees with one in which it does on what they read (R30). -/
theorem State.TrackerFollows.of_same {s t : State} {w : WorkingCopy} {c : RunCard} {n : Nat} {enow : Option Nat}
    (h : s.TrackerFollows w c n enow) (derived : t.tracker.derived = s.tracker.derived)
    (readiness : t.tracker.readiness = s.tracker.readiness) (urgency : t.tracker.urgency = s.tracker.urgency)
    (claim : t.tracker.claim = s.tracker.claim) (status : t.vehicle.lastStatus = s.vehicle.lastStatus)
    (pilot : t.vehicle.pilot = s.vehicle.pilot) (pderated : t.composer.pderated = s.composer.pderated) :
    t.TrackerFollows w c n enow := by
  unfold State.TrackerFollows at *
  rw [derived, readiness, urgency, claim, status, pilot, pderated]
  exact h

/-- All that a recompute does in a session with a card (R30). -/
theorem recompute_effect {b : Bool} {s : State} {w : WorkingCopy} {c : RunCard} (hw : s.store.working = some w)
    (hc : s.tracker.card = some c) :
    (recompute b s).tracker = s.recomputed b w c
      ∧ (recompute b s).share =
          (if (s.recomputed b w c).claim < s.share.allowance then setAllowance (s.recomputed b w c).claim s.share
          else s.share)
      ∧ (recompute b s).service =
          (if (s.recomputed b w c).readiness = .atRisk ∧ s.tracker.readiness ≠ .atRisk then
            { s.service with pendingCauses := s.service.pendingCauses ||| 1#12 } else s.service)
      ∧ (recompute b s).account =
          { s.account with
            gate := (s.setTracker (s.recomputed b w c)).lending.1
            lendable := (s.setTracker (s.recomputed b w c)).lending.2
            offer := s.offerFor (s.setTracker (s.recomputed b w c)).lending.2 } := by
  have hd : recompute b s = updateLending (claimHanded (raiseAtRisk s.tracker.readiness
      (s.setTracker (s.recomputed b w c)))) := by simp [recompute, hw, hc]
  rw [hd]
  generalize s.recomputed b w c = t
  refine ⟨by simp, by simp, ?_, ?_⟩
  · by_cases hr : t.readiness = .atRisk ∧ s.tracker.readiness ≠ .atRisk
    · rw [if_pos hr]
      have : raiseAtRisk s.tracker.readiness (s.setTracker t) = raise .atRiskEntered (s.setTracker t) := if_pos hr
      rw [this]
      simp [withCause, Cause.bit]; rfl
    · rw [if_neg hr]
      have : raiseAtRisk s.tracker.readiness (s.setTracker t) = (s.setTracker t) := if_neg hr
      rw [this]
      simp
  · simp [State.lending, State.offerFor, State.pvdis]; rfl

/-- What the other blocks find after a recompute: the tracker follows the tables of 2.2 to 2.4, the claim has been
handed on and the account lends by its table (R30, R58, R114). -/
theorem recompute_follows {b : Bool} {s : State} {w : WorkingCopy} {c : RunCard} {n : Nat}
    (hw : s.store.working = some w) (hc : s.tracker.card = some c) (hn : s.tracker.countdown = some n) :
    (recompute b s).TrackerFollows w c n s.account.enow
      ∧ s.share.LoweredTo (recompute b s).tracker.claim (recompute b s).share
      ∧ (recompute b s).LendsByTable := by
  obtain ⟨e1, e2, -, -⟩ := recompute_effect (b := b) hw hc
  refine ⟨?_, ?_, ?_⟩
  · have hv : (recompute b s).vehicle = s.vehicle := by simp
    have hk : (recompute b s).composer = s.composer := by simp
    have hd : s.derivedNow w c = derivedOf w c n s.account.enow s.pvmax s.composer.pderated s.ecap := by
      simp [State.derivedNow, hn]
    have hr : s.readinessNow w c = readinessOf c n (s.derivedNow w c) := by simp [State.readinessNow, hn]
    have hl : (s.readinessNow w c).linked = true := by
      rw [hr]; unfold readinessOf; repeat' split
      all_goals rfl
    have ha : s.acceptingIn (s.readinessNow w c) = (s.vehicle.pilot == .energy
        && s.vehicle.lastStatus.any fun k => k.flags.getLsbD 0 && k.flags.getLsbD 1) := by
      simp [State.acceptingIn, hl, statusAccepts, statusContactor]
    refine ⟨s.derivedNow w c, s.acceptingIn (s.readinessNow w c), _, _, by rw [hv]; exact ha, rfl, rfl, ?_⟩
    rw [e1, hv, hk]
    have ht : (s.recomputed b w c).readiness = readinessOf c n (s.derivedNow w c) := hr
    have hq : (s.recomputed b w c).claim = claimOf (readinessOf c n (s.derivedNow w c)) (s.derivedNow w c)
        s.account.enow (s.acceptingIn (s.readinessNow w c)) c.pcond s.composer.pderated := by rw [← hr]; rfl
    have hu : (s.recomputed b w c).urgency = urgencyOf w (readinessOf c n (s.derivedNow w c)) (s.derivedNow w c) := by
      rw [← hr]; rfl
    rw [ht, hq, hu]
    refine ⟨rfl, by rw [hd]; rfl, by rw [hd]; rfl, by rw [hd]; rfl, ?_, ?_, by rw [hd]; rfl, by rw [hd]; rfl, rfl,
      rfl, ?_⟩
    · rw [hd]; cases s.account.enow <;> rfl
    · rw [hd]
      cases s.account.enow with
      | none => simp [derivedOf]
      | some e => rfl
    generalize s.derivedNow w c = d
    generalize readinessOf c n d = r
    generalize s.acceptingIn _ = accepting
    refine ⟨?_, ?_, ?_⟩
    · rintro (h | h | h) <;> rw [h] <;> rfl
    · rintro (h | h) <;> rw [h] <;> rfl
    · intro h; rw [h]
      simp only [claimOf, conditioningBase, towardTarget, RunCard.pcond]
      cases accepting <;> simp
      by_cases hg : d.egap.any (0 < ·) = true <;> simp [hg]
  · rw [e2, e1]; exact loweredTo_setAllowance _ _
  · have hu : recompute b s = updateLending (claimHanded (raiseAtRisk s.tracker.readiness
        (s.setTracker (s.recomputed b w c)))) := by simp [recompute, hw, hc]
    rw [hu]; exact updateLending_lends _

/-- With no card a recompute changes nothing. -/
theorem recompute_noCard {b : Bool} {s : State} (h : s.tracker.card = none) : recompute b s = s := by
  unfold recompute; rw [h]; split <;> simp_all

theorem stageFault_live {r : HaltReason} {s : State}
    (h : s.tracker.readiness = .linking ∨ s.tracker.readiness.linked = true) : stageFault r s = halt r s := by
  simp only [stageFault]; rw [if_pos h]

theorem stageFault_dead {r : HaltReason} {s : State}
    (h : ¬(s.tracker.readiness = .linking ∨ s.tracker.readiness.linked = true)) : stageFault r s = s := by
  simp only [stageFault]; rw [if_neg h]

/-! ## REPORT (6.10, 8.1, 8.2, 8.8) -/

/-- A REPORT in LOADING or UNCONFIGURED touches nothing but the feeder sample and the count of free values: the sample
is taken, as by R121, or left, as by R152. -/
theorem sampleWithoutCopy_effect (m : Int) (s : State) :
    ((sampleWithoutCopy m s).composer = s.composer
      ∨ (sampleWithoutCopy m s).composer = { s.composer with feederSample := some m })
    ∧ (sampleWithoutCopy m s).freeDraws = s.freeDraws + 1
    ∧ unchangedExcept [.composer, .freeDraws] s (sampleWithoutCopy m s) := by
  refine ⟨?_, ?_, unchangedExcept_intro ?_ ?_ ?_ ?_ ?_ ?_ ?_ ?_ ?_ ?_ ?_ ?_ ?_⟩
  · cases h : Config.sampleReachesFeed s.freeDraws <;> simp [sampleWithoutCopy, State.drawn, h]
  all_goals simp [sampleWithoutCopy, State.drawn]

/-- What a REPORT can do: its state code discards it, the role takes it in LISTENING, RUNNING and CLASH, or it is one of
LOADING or UNCONFIGURED. -/
theorem receiveReport_cases (r : WireReport) (s : State) :
    (Converter.ofByte r.state = none ∧ receiveReport r s = s)
    ∨ (∃ state, Converter.ofByte r.state = some state ∧
        ((s.link.station.active = true ∧ receiveReport r s = acceptByRole r state s)
        ∨ (s.link.station.active = false ∧ receiveReport r s = sampleWithoutCopy r.power.toInt s))) := by
  unfold receiveReport
  split
  · next state h =>
    refine .inr ⟨state, h, ?_⟩
    cases s.link.station.active <;> simp
  · next h => exact .inl ⟨h, rfl⟩

/-! ## Link-ups and the ends of sessions -/


/-- All that the link-up check does (R7). -/
theorem checkLinkUp_effect (s : State) (w : WorkingCopy) (hw : s.store.working = some w) :
    (s.canLinkUp = true → (checkLinkUp s).vehicle = s.vehicle.linkUp w ∧ (checkLinkUp s).tracker = s.tracker.linkUp
      ∧ (checkLinkUp s).account = Account.reset)
    ∧ (s.canLinkUp = false → checkLinkUp s = s) := by
  unfold checkLinkUp
  rw [hw]
  refine ⟨fun h => ?_, fun h => ?_⟩ <;> simp [h]

/-- All that the end of a connection does to a session (R20, R44). -/
theorem unplug_effect (s : State) :
    (unplug s).vehicle = (s.vehicle.close .unplugged).clearSession
      ∧ (unplug s).tracker = { s.tracker.vacate with record := some s.sessionRecord }
      ∧ (unplug s).account = Account.reset
      ∧ (unplug s).share = (if 0 < s.share.allowance then setAllowance 0 s.share else s.share) := by
  simp [unplug, endSession, Tracker.vacate, Tracker.reset]
  rfl

/-! ## Station states -/

/-- All that leaving RUNNING does (R93, R116, R121, R147). -/
theorem leaveRunning_effect (s : State) :
    (leaveRunning s).peers = { s.peers with alone := false } ∧ (leaveRunning s).share = leaveRunningShare s.share
      ∧ (leaveRunning s).reserve = leaveRunningReserve s.reserve := ⟨rfl, rfl, rfl⟩

/-- All that a clash does (R79). -/
theorem enterClash_effect (s : State) :
    (enterClash s).link = s.link.clash ∧ (enterClash s).peers = { s.peers with alone := false }
      ∧ (enterClash s).share = leaveRunningShare s.share ∧ (enterClash s).reserve = leaveRunningReserve s.reserve
      ∧ (enterClash s).service = { s.service with pendingCauses := s.service.pendingCauses ||| 4#12 } :=
  ⟨rfl, rfl, rfl, rfl, rfl⟩

/-! ## The line of the depot link -/

/-- All that the end of an own transmission does to the line (R66, R74, R77). -/
theorem Link.stopDriving_effect (k : Link) :
    (k.transmitting = none → k.stopDriving = k)
      ∧ (k.transmitting ≠ none →
          k.stopDriving = { k with transmitting := none, idleTime := 0, receiver := .deaf 0 }) := by
  constructor <;> intro h <;> simp [Link.stopDriving, h]

/-- All that a sensed idle time does to the frames in hand: a ready SHED is sent, or else a ready ANNOUNCE (R73). -/
theorem Link.startReady_effect (station : Nat) (r : Receiver) (k : Link) :
    (k.shedReady station = true → k.startReady station r = k.startShed r)
      ∧ (k.shedReady station = false → k.announceReady station = true → k.startReady station r = k.startAnnounce r)
      ∧ (k.shedReady station = false → k.announceReady station = false → k.startReady station r = k) := by
  refine ⟨fun h => ?_, fun h g => ?_, fun h g => ?_⟩ <;> simp [Link.startReady, *]

/-- All that sensing the idle time of the line does (R66). -/
theorem senseIdle_effect (micros : Nat) (s : State) :
    (s.link.idleTime ≤ micros → senseIdle micros s = s.elapse (micros - s.link.idleTime))
      ∧ (micros < s.link.idleTime → senseIdle micros s = s.setLink (s.link.activityEnded micros)) := by
  refine ⟨fun h => by simp [senseIdle, h], fun h => ?_⟩
  simp [senseIdle, show ¬ s.link.idleTime ≤ micros by omega]

/-- After sensing, a line that the station does not drive has the idle time that was sensed (R66). -/
theorem senseIdle_idleTime (micros : Nat) (s : State) (h : s.link.transmitting = none) :
    (senseIdle micros s).link.idleTime = micros := by
  unfold senseIdle
  split
  · rw [elapse_link]; simp [h]; omega
  · rfl

/-- All that the end of a reception does, by whether the receiver delivers it (R77). -/
theorem receive_effect (fresh : Bool) (characters : Nat) (r : Reception) (s : State) :
    (s.link.hears fresh = true → receive fresh characters r s = decideReception r (receptionEnds fresh characters s))
      ∧ (s.link.hears fresh = false → receive fresh characters r s = receptionEnds fresh characters s) := by
  constructor <;> intro h <;> simp [receive, h]

/-- What the receiver delivers (R77). -/
theorem Link.hears_iff (fresh : Bool) (k : Link) :
    k.hears fresh = true ↔
      k.receiver = .hearing ∨ (fresh = true ∧ (k.receiver = .ending ∨ k.transmitting = none)) := by
  unfold Link.hears
  cases k.receiver <;> simp

/-- A reception makes time pass only at a deaf receiver of a station that does not drive the line (R77). -/
theorem Link.receptionWait_effect (fresh : Bool) (characters : Nat) (k : Link) :
    (∀ quiet, k.receiver = .deaf quiet → k.transmitting = none →
        k.receptionWait fresh characters = lineIdle + (if fresh then receptionTime characters else 0) - quiet)
      ∧ (k.receiver = .hearing ∨ k.receiver = .ending ∨ k.transmitting ≠ none →
          k.receptionWait fresh characters = 0) := by
  unfold Link.receptionWait
  constructor
  · intro quiet h1 h2
    rw [h1]
    simp [h2]
  · intro h
    split <;> simp_all

/-- The line after a reception is idle, unless the station drives it (R66, R77). -/
theorem receptionEnds_link (fresh : Bool) (characters : Nat) (s : State) :
    (receptionEnds fresh characters s).link =
      (s.elapse (s.link.receptionWait fresh characters)).link.afterReception := rfl

/-! ## Allocations -/

/-- Of the link an allocation reads the station state alone. -/
theorem allocateReserve_setLink (s : State) (k : Link) (h : k.station = s.link.station) :
    allocateReserve (s.setLink k) = (allocateReserve s).setLink k := by
  unfold allocateReserve
  have e1 : (s.setLink k).divides = s.divides := by
    simp [State.divides, State.offers, State.responds, h, State.isPost, State.role]
  have e2 : ∀ w, (s.setLink k).divided w = s.divided w := fun _ => rfl
  have e3 : newShortfall (s.setLink k).reserve = newShortfall s.reserve := rfl
  rw [State.setLink_store, e1]
  split
  · split
    · rw [e2, e3]
      split <;> rfl
    · rfl
  · rfl

theorem allocationEvent_setLink (s : State) (k : Link) (h : k.station = s.link.station) :
    allocationEvent (s.setLink k) = (allocationEvent s).setLink k := by
  unfold allocationEvent
  rw [allocateReserve_setLink _ _ h]
  have h' : k.station = (allocateReserve s).link.station := by simpa using h
  unfold allocateShare
  rw [State.setLink_store, State.setLink_link, h']
  split
  · split
    · split <;> rfl
    · rfl
  · rfl

/-- The division of the reserve leaves what every post contributes. -/
theorem allocateReserve_contributions (s : State) :
    (allocateReserve s).contributions = s.contributions
      ∧ (allocateReserve s).ownContribution = s.ownContribution := by
  have key : ∀ r : Reserve, r.offerUp = s.reserve.offerUp → r.offerDown = s.reserve.offerDown →
      (s.setReserve r).contributions = s.contributions ∧ (s.setReserve r).ownContribution = s.ownContribution := by
    intro r h1 h2
    have : (s.setReserve r).ownContribution = s.ownContribution := by
      unfold State.ownContribution; simp [State.isPost, State.role, h1, h2]
    exact ⟨by unfold State.contributions; rw [this]; rfl, this⟩
  unfold allocateReserve
  split
  · split
    · split
      · exact key _ rfl rfl
      · exact key _ rfl rfl
    · exact key _ rfl rfl
  · exact ⟨rfl, rfl⟩

/-- What an allocation does to the share engine (R101, R107, R116). -/
theorem allocationEvent_share {s : State} {w : WorkingCopy} (hw : s.store.working = some w) :
    (allocationEvent s).share =
      if w.role = .post then
        (if s.link.station = .running then s.allocated w
        else { endTenure s.share with allowance := 0, discharge := 0, budget := none })
      else s.share := by
  have ha : (allocateReserve s).allocated w = s.allocated w := by
    have h := allocateReserve_contributions s
    simp only [State.allocated, State.contestedNow, State.tiersNow, State.budgetNow, State.meterHeard,
      State.computedAllowance, State.allocationInterval, h.1, h.2]
    simp
  unfold allocationEvent allocateShare
  simp only [allocateReserve_frame, hw]
  split
  · split
    · rw [State.setShare_share, ha]
    · simp
  · simp

/-- What an allocation does to the reserve unit and the attention set (R143, R144). -/
theorem allocationEvent_reserve {s : State} {w : WorkingCopy} (hw : s.store.working = some w) :
    (allocationEvent s).reserve =
        (if s.divides then s.divided w
        else lowerResponse { s.reserve with upShare := 0, downShare := 0, shortUp := false, shortDown := false })
      ∧ (allocationEvent s).service =
          (if s.divides ∧ newShortfall s.reserve (s.divided w) = true then
            { s.service with pendingCauses := s.service.pendingCauses ||| 32#12 } else s.service) := by
  have h1 : (allocationEvent s).reserve = (allocateReserve s).reserve := by simp [allocationEvent]
  have h2 : (allocationEvent s).service = (allocateReserve s).service := by simp [allocationEvent]
  rw [h1, h2]
  unfold allocateReserve
  simp only [hw]
  split
  · rename_i hd
    split
    · rename_i hn
      rw [if_pos ⟨hd, hn⟩]
      refine ⟨by simp, ?_⟩
      simp [withCause, Cause.bit]; rfl
    · rename_i hn
      rw [if_neg fun h => hn h.2]
      simp
  · rename_i hd
    rw [if_neg fun h => hd h.1]
    simp

/-! ## The peer table -/

/-- Storing an entry keeps the ascending order; the table then holds it and every entry of another station (R85, R86).
-/
theorem putPeer_effect (p : Peer) (l : List Peer) (h : l.Pairwise fun a b => a.station < b.station) :
    (putPeer p l).Pairwise (fun a b => a.station < b.station)
      ∧ ∀ q, q ∈ putPeer p l ↔ (q ∈ l ∧ q.station ≠ p.station) ∨ q = p := by
  induction l with
  | nil => simp [putPeer]
  | cons a rest ih =>
    rw [List.pairwise_cons] at h
    obtain ⟨ih1, ih2⟩ := ih h.2
    unfold putPeer
    split
    · next hlt =>
      refine ⟨?_, ?_⟩
      · rw [List.pairwise_cons]; refine ⟨?_, ih1⟩
        intro q hq
        rcases (ih2 q).mp hq with ⟨h1, -⟩ | h1
        · exact h.1 q h1
        · rw [h1]; exact hlt
      · intro q; simp only [List.mem_cons, ih2]
        constructor
        · rintro (rfl | h1 | h1)
          · exact .inl ⟨.inl rfl, by omega⟩
          · exact .inl ⟨.inr h1.1, h1.2⟩
          · exact .inr h1
        · rintro (⟨rfl | h1, h2⟩ | h1)
          · exact .inl rfl
          · exact .inr (.inl ⟨h1, h2⟩)
          · exact .inr (.inr h1)
    · split
      · next hlt heq =>
        refine ⟨?_, ?_⟩
        · rw [List.pairwise_cons]; exact ⟨fun q hq => by have := h.1 q hq; omega, h.2⟩
        · intro q; simp only [List.mem_cons]
          constructor
          · rintro (rfl | h1)
            · exact .inr rfl
            · exact .inl ⟨.inr h1, by have := h.1 q h1; omega⟩
          · rintro (⟨rfl | h1, h2⟩ | h1)
            · exact absurd heq h2
            · exact .inr h1
            · exact .inl h1
      · next hlt hne =>
        refine ⟨?_, ?_⟩
        · rw [List.pairwise_cons, List.pairwise_cons]
          refine ⟨?_, h.1, h.2⟩
          intro q hq; rcases List.mem_cons.mp hq with rfl | hq
          · omega
          · have := h.1 q hq; omega
        · intro q; simp only [List.mem_cons]
          constructor
          · rintro (rfl | rfl | h1)
            · exact .inr rfl
            · exact .inl ⟨.inl rfl, by omega⟩
            · exact .inl ⟨.inr h1, by have := h.1 q h1; omega⟩
          · rintro (⟨rfl | h1, h2⟩ | h1)
            · exact .inr (.inl rfl)
            · exact .inr (.inr h1)
            · exact .inl h1

/-- After the mode transitions of a control period the lower clamp is that of the offer as it then stands, and the target
lies at or above it (R59, R157). -/
theorem periodMode_offer (w : WorkingCopy) (s : State) :
    (periodMode w s).composer.lowerClamp = -((periodMode w s).account.offer : Int)
      ∧ (periodMode w s).composer.lowerClamp ≤ (periodMode w s).composer.target := by
  simp [periodMode, periodOffer]

end Sys2Proof.Machine
end

