-- ==== Sys2Proof/Laws/PerInstr.lean ====
section
/-! SUPPORT. The family `NoWordSpells`, one lemma for each command: the opcode table gives no row any bits, so no word
spells the command (assumption 10). -/

namespace Sys2Proof.Laws

/-- No word of any width decodes to the command. -/
def NoWordSpells.Statement (i : Sys2Proof.Instr) : Prop :=
  ∀ nbits w : Nat, Sys2Proof.decodeTableWord nbits w ≠ some i

/-- `decodeTableWord` answers none. -/
theorem decodeTableWord_none (nbits w : Nat) (i : Sys2Proof.Instr) : Sys2Proof.decodeTableWord nbits w ≠ some i :=
  fun h => nomatch h

theorem NoWordSpells.startReset : NoWordSpells.Statement .startReset := fun n w => decodeTableWord_none n w _
theorem NoWordSpells.loadComplete : NoWordSpells.Statement .loadComplete := fun n w => decodeTableWord_none n w _
theorem NoWordSpells.configMemoryTimeout (answered : Nat) : NoWordSpells.Statement (.configMemoryTimeout answered) := fun n w => decodeTableWord_none n w _
theorem NoWordSpells.connectorSample (pilotMillivolts : Int) (latchSensed earthSensed : Bool) : NoWordSpells.Statement (.connectorSample pilotMillivolts latchSensed earthSensed) := fun n w => decodeTableWord_none n w _
theorem NoWordSpells.helloReplyTimerExpiry : NoWordSpells.Statement .helloReplyTimerExpiry := fun n w => decodeTableWord_none n w _
theorem NoWordSpells.forwardFrameSend : NoWordSpells.Statement .forwardFrameSend := fun n w => decodeTableWord_none n w _
theorem NoWordSpells.identReceived (id : VehicleId) (card : WireCard) : NoWordSpells.Statement (.identReceived id card) := fun n w => decodeTableWord_none n w _
theorem NoWordSpells.statusReceived (status : WireStatus) : NoWordSpells.Statement (.statusReceived status) := fun n w => decodeTableWord_none n w _
theorem NoWordSpells.cardReceived (card : WireCard) : NoWordSpells.Statement (.cardReceived card) := fun n w => decodeTableWord_none n w _
theorem NoWordSpells.vehicleFrameDiscarded (frame : List Byte) : NoWordSpells.Statement (.vehicleFrameDiscarded frame) := fun n w => decodeTableWord_none n w _
theorem NoWordSpells.vehicleWatchdogExpiry : NoWordSpells.Statement .vehicleWatchdogExpiry := fun n w => decodeTableWord_none n w _
theorem NoWordSpells.minuteTimerExpiry : NoWordSpells.Statement .minuteTimerExpiry := fun n w => decodeTableWord_none n w _
theorem NoWordSpells.looptestStart : NoWordSpells.Statement .looptestStart := fun n w => decodeTableWord_none n w _
theorem NoWordSpells.looptestStop : NoWordSpells.Statement .looptestStop := fun n w => decodeTableWord_none n w _
theorem NoWordSpells.testFrameReturn (frame : List Byte) : NoWordSpells.Statement (.testFrameReturn frame) := fun n w => decodeTableWord_none n w _
theorem NoWordSpells.returnWindowExpiry : NoWordSpells.Statement .returnWindowExpiry := fun n w => decodeTableWord_none n w _
theorem NoWordSpells.reportReceived (report : WireReport) : NoWordSpells.Statement (.reportReceived report) := fun n w => decodeTableWord_none n w _
theorem NoWordSpells.stageFrameDiscarded (frame : List Byte) : NoWordSpells.Statement (.stageFrameDiscarded frame) := fun n w => decodeTableWord_none n w _
theorem NoWordSpells.feederSample (report : WireReport) : NoWordSpells.Statement (.feederSample report) := fun n w => decodeTableWord_none n w _
theorem NoWordSpells.controlPeriod : NoWordSpells.Statement .controlPeriod := fun n w => decodeTableWord_none n w _
theorem NoWordSpells.stageSilent : NoWordSpells.Statement .stageSilent := fun n w => decodeTableWord_none n w _
theorem NoWordSpells.idleTimerExpiry : NoWordSpells.Statement .idleTimerExpiry := fun n w => decodeTableWord_none n w _
theorem NoWordSpells.wakeTimerExpiry : NoWordSpells.Statement .wakeTimerExpiry := fun n w => decodeTableWord_none n w _
theorem NoWordSpells.lendableUpdate : NoWordSpells.Statement .lendableUpdate := fun n w => decodeTableWord_none n w _
theorem NoWordSpells.offerCompute : NoWordSpells.Statement .offerCompute := fun n w => decodeTableWord_none n w _
theorem NoWordSpells.listenTimerExpiry : NoWordSpells.Statement .listenTimerExpiry := fun n w => decodeTableWord_none n w _
theorem NoWordSpells.announceTimerExpiry : NoWordSpells.Statement .announceTimerExpiry := fun n w => decodeTableWord_none n w _
theorem NoWordSpells.transmissionStart (idleMicros : Nat) : NoWordSpells.Statement (.transmissionStart idleMicros) := fun n w => decodeTableWord_none n w _
theorem NoWordSpells.collision : NoWordSpells.Statement .collision := fun n w => decodeTableWord_none n w _
theorem NoWordSpells.transmissionComplete : NoWordSpells.Statement .transmissionComplete := fun n w => decodeTableWord_none n w _
theorem NoWordSpells.receptionEnd (characters : Heard (List Byte)) : NoWordSpells.Statement (.receptionEnd characters) := fun n w => decodeTableWord_none n w _
theorem NoWordSpells.announceReceived (frame : Heard WireAnnounce) : NoWordSpells.Statement (.announceReceived frame) := fun n w => decodeTableWord_none n w _
theorem NoWordSpells.shedReceived (frame : Heard WireShed) : NoWordSpells.Statement (.shedReceived frame) := fun n w => decodeTableWord_none n w _
theorem NoWordSpells.peerEntryExpiry (station : Nat) : NoWordSpells.Statement (.peerEntryExpiry station) := fun n w => decodeTableWord_none n w _
theorem NoWordSpells.shedHoldExpiry : NoWordSpells.Statement .shedHoldExpiry := fun n w => decodeTableWord_none n w _
theorem NoWordSpells.mainsEdge (timeMicros : Nat) : NoWordSpells.Statement (.mainsEdge timeMicros) := fun n w => decodeTableWord_none n w _
theorem NoWordSpells.edgeTimeout : NoWordSpells.Statement .edgeTimeout := fun n w => decodeTableWord_none n w _
theorem NoWordSpells.readItem (item index : Byte) : NoWordSpells.Statement (.readItem item index) := fun n w => decodeTableWord_none n w _
theorem NoWordSpells.writeShadow (offset : Byte) (data : List Byte) : NoWordSpells.Statement (.writeShadow offset data) := fun n w => decodeTableWord_none n w _
theorem NoWordSpells.writeback : NoWordSpells.Statement .writeback := fun n w => decodeTableWord_none n w _
theorem NoWordSpells.writebackPageDone (readBack : Page) : NoWordSpells.Statement (.writebackPageDone readBack) := fun n w => decodeTableWord_none n w _
theorem NoWordSpells.restart : NoWordSpells.Statement .restart := fun n w => decodeTableWord_none n w _
theorem NoWordSpells.attnRead : NoWordSpells.Statement .attnRead := fun n w => decodeTableWord_none n w _
theorem NoWordSpells.attnRearm : NoWordSpells.Statement .attnRearm := fun n w => decodeTableWord_none n w _
theorem NoWordSpells.readTransfer (clocked : Nat) : NoWordSpells.Statement (.readTransfer clocked) := fun n w => decodeTableWord_none n w _
theorem NoWordSpells.serviceRequestInvalid (frame : List Byte) : NoWordSpells.Statement (.serviceRequestInvalid frame) := fun n w => decodeTableWord_none n w _

end Sys2Proof.Laws
end

