-- ==== Sys2Proof/WellFormed.lean ====
section
/-! DEFINITION. The ranges the manual gives a command's operands. `exec` is total on every command: a frame whose field
is out of range is discarded and counted as R77, R153 and R184 state, and is not stopped. -/

namespace Sys2Proof

/-- A station number of the depot link is 1 to 32 (4 Terms). -/
def validStation (n : Nat) : Bool := 1 ≤ n && n ≤ 32

/-- The operands of a command lie in the ranges the manual gives them: R77 for ANNOUNCE and SHED, R184 for REPORT,
R170 for the bytes answered, R178 for the length byte of a WRITE_SHADOW. -/
def wellFormed : Instr → Bool
  | .configMemoryTimeout answered => answered < 256
  | .reportReceived r => r.state.toNat ≤ 3
  | .feederSample r => r.state.toNat ≤ 3
  | .announceReceived f =>
    validStation f.content.station.toNat && (f.content.role == 1 || f.content.role == 2)
  | .shedReceived f =>
    validStation f.content.station.toNat && 1 ≤ f.content.fraction.toNat && f.content.fraction.toNat ≤ 1024
  | .peerEntryExpiry n => validStation n
  | .writeShadow _ data => data.length ≤ 254
  | .startReset => true
  | .loadComplete => true
  | .connectorSample _ _ _ => true
  | .helloReplyTimerExpiry => true
  | .forwardFrameSend => true
  | .identReceived _ _ => true
  | .statusReceived _ => true
  | .cardReceived _ => true
  | .vehicleFrameDiscarded _ => true
  | .vehicleWatchdogExpiry => true
  | .minuteTimerExpiry => true
  | .looptestStart => true
  | .looptestStop => true
  | .testFrameReturn _ => true
  | .returnWindowExpiry => true
  | .stageFrameDiscarded _ => true
  | .controlPeriod => true
  | .stageSilent => true
  | .idleTimerExpiry => true
  | .wakeTimerExpiry => true
  | .lendableUpdate => true
  | .offerCompute => true
  | .listenTimerExpiry => true
  | .announceTimerExpiry => true
  | .transmissionStart _ => true
  | .collision => true
  | .transmissionComplete => true
  | .receptionEnd _ => true
  | .shedHoldExpiry => true
  | .mainsEdge _ => true
  | .edgeTimeout => true
  | .readItem _ _ => true
  | .writeback => true
  | .writebackPageDone _ => true
  | .restart => true
  | .attnRead => true
  | .attnRearm => true
  | .readTransfer _ => true
  | .serviceRequestInvalid _ => true

end Sys2Proof
end

