-- ==== Sys2Proof/Tests/Slice0.lean ====
section
/-! SUPPORT. Tests of single steps on small states, with expected values from the worked cases and tables of the manual
or by hand from its rules, and for each obligation with hypotheses a named theorem that shows a state and operands
that meet them (`meets_…`; a hypothesis that only names a value, `x = …`, is met by that value and is not repeated). -/

-- One proof after another: each `decide +kernel` waits for the kernel, and a waiting thread for each takes too much
-- memory.
set_option Elab.async false

namespace Sys2Proof.Machine.Tests

/-! ## Small states -/

/-- The working copy of post 3 of the worked cases 2.9, 6.16, 7.10 and 8.11. -/
def post : WorkingCopy where
  station := 3
  role := .post
  protect := 2
  fcap := 8000
  site := 600
  guard := 20
  isldiv := 4
  upcommit := 400
  dncommit := 1200
  nomf := 50
  db := 20
  full := 200
  tann := 25
  ksil := 4
  tenure := 120
  shedhold := 5
  trip := 50
  ntrip := 5
  s2 := 120
  s3 := 30
  margin := 300
  target := 90
  lendguard := 100
  protectWindow := 60
  pdismax := 600
  prated := 1500
  ramp := 50
  qstep := 10
  idle := 60
  derate := [256, 256, 256, 256, 256, 256, 224, 192, 160, 128, 96, 64, 32, 0, 0, 0]
  vwd := 1000
  mask := 0x0FFF

/-- The working copy of meter 21. -/
def meter : WorkingCopy := { post with station := 21, role := .meter }

/-- A station with a working copy, in a station state, with nothing heard and no vehicle. -/
def inState (station : Station) (w : WorkingCopy) : State :=
  { State.reset with
    store := { Store.reset [] with working := some w, loadResult := .loaded }
    link := { Link.reset with station := station, receiver := .hearing }
    peers := { entries := [], alone := station == .running } }

def listening (w : WorkingCopy) : State :=
  (inState .listening w).setLink
    { Link.reset with station := .listening, listenTimer := some 700000, receiver := .hearing }

def running (w : WorkingCopy) : State :=
  (inState .running w).setLink
    { Link.reset with
      station := .running, announceTimer := some 100000, sequence := some 0x0303, receiver := .hearing }

/-- The STATUS of 2.9, step 1, echoing session 7. -/
def status1 : WireStatus :=
  { eveh := 1420, ecap := 3500, pvmax := 1500, pvdis := 800, flags := 3, echo := 7 }

/-- Post 3 in RUNNING with a session in CHARGING: the card of 2.9, the STATUS of its step 1. -/
def linked : State :=
  { running post with
    vehicle :=
      { VehicleLine.reset with
        pilot := .energy, proximity := .closed, session := 7, sessionOpen := true, watchdog := some 400000
        lastStatus := some status1, helloCount := 1 }
    tracker :=
      { Tracker.reset with
        readiness := .charging, card := some { departure := 95, eroute := 1850, conditioning := none }
        countdown := some 95, minuteTimer := some 30000000, planMark := true, urgency := 2, claim := 1500
        derived := some { efloor := 2150, egap := some 730, pmax := 1500, tmin := some 30, slack := some 65
                          windowOpen := false, etarget := 3150 } }
    account := { Account.reset with enow := some 1420 }
    share :=
      { Share.reset with
        allowance := 1000, lastAllocation := some 0
        budget := some { guard := 160, meter := none, feederLoad := none, totalDraw := 1000, siteLoad := 600
                         headroom := 7240, budget := 6840, overdraw := 0 } }
    composer :=
      { Composer.reset with
        mode := .run, converter := some .ready, pderated := 1500, draw := 1000, ramped := 1000
        temperature := some 20, upperClamp := 1500 } }

/-- The session of `linked` in LINKING with its first HELLO sent. -/
def linkingUp : State :=
  ((linked.setVehicle
    { linked.vehicle with watchdog := none, lastStatus := none, helloTimer := some 2000000 }).setTracker
    { Tracker.reset with readiness := .linking }).setAccount Account.reset

/-- A state of the vehicle line with its HELLO reply timer or its watchdog at its end. -/
def helloDue (count : Nat) : State :=
  linkingUp.setVehicle { linkingUp.vehicle with helloTimer := some 0, helloCount := count }

/-- The state after a command. -/
def after (c : Instr) (s : State) : State :=
  match exec c s with
  | .next t => t
  | .fault _ => s
  | .refused _ => s

/-! ## Well-formedness: one ill-formed command for each check, refused -/

def announce3 : WireAnnounce :=
  { station := 7, role := 1, flags := 0, readiness := 3, urgency := 3, claim := 1800, held := 1200, draw := 1750
    offerUp := 50, offerDown := 1750, dischargeOffer := 0, lendable := 0, feederLoad := 0 }

theorem test_illFormed_timeout : wellFormed (.configMemoryTimeout 256) = false := by decide
theorem test_illFormed_report :
    wellFormed (.reportReceived { power := 0, state := 4, temperature := 0 }) = false := by decide
theorem test_illFormed_sample :
    wellFormed (.feederSample { power := 0, state := 4, temperature := 0 }) = false := by decide
theorem test_illFormed_announce_station :
    wellFormed (.announceReceived ⟨true, { announce3 with station := 0 }⟩) = false
      ∧ wellFormed (.announceReceived ⟨true, { announce3 with station := 33 }⟩) = false := by decide
theorem test_illFormed_announce_role : wellFormed (.announceReceived ⟨true, { announce3 with role := 3 }⟩) = false := by decide
theorem test_illFormed_shed :
    wellFormed (.shedReceived ⟨true, { station := 0, fraction := 1 }⟩) = false
      ∧ wellFormed (.shedReceived ⟨true, { station := 1, fraction := 0 }⟩) = false
      ∧ wellFormed (.shedReceived ⟨true, { station := 1, fraction := 1025 }⟩) = false := by decide
theorem test_illFormed_entry : wellFormed (.peerEntryExpiry 33) = false := by decide
theorem test_illFormed_shadow : wellFormed (.writeShadow 0 (List.replicate 255 0)) = false := by decide +kernel
theorem test_wellFormed_bounds :
    wellFormed (.configMemoryTimeout 255) = true ∧ wellFormed (.announceReceived ⟨true, { announce3 with station := 32 }⟩) = true
      ∧ wellFormed (.shedReceived ⟨true, { station := 32, fraction := 1024 }⟩) = true := by decide

/-! ## Formats and frames (Chapter 10) -/

/-- The published check value of the CRC of R185 over the characters 1 to 9. -/
theorem test_crc_check :
    crc16 [0x31, 0x32, 0x33, 0x34, 0x35, 0x36, 0x37, 0x38, 0x39] = 0x29B1#16 := by decide +kernel

/-- A two-byte field stands low byte first (3.3); D0 hex 07 hex is 2000. -/
theorem test_low_byte_first : nat16 2000 = [0xD0, 0x07] ∧ wordOfBytes 0xD0 0x07 = 2000 := by decide

/-- A SHED from station 21 with fraction 68, its bytes written out from 10.5. -/
theorem test_decode_shed :
    receptionOf ([0x02, 0x15, 0x44, 0x00] ++ bytesOfWord (crc16 [0x02, 0x15, 0x44, 0x00]))
      = .shed { station := 21, fraction := 68 } := by decide +kernel

/-- A CARD with departure 25, Eroute 2100, conditioning 90 for 15 minutes, its bytes written out from 10.6. -/
theorem test_decode_card :
    backFrameOf ([0x23, 25, 0, 0x34, 0x08, 1, 90, 0, 15]
        ++ bytesOfWord (crc16 [0x23, 25, 0, 0x34, 0x08, 1, 90, 0, 15]))
      = .card { departure := 25, eroute := 2100, conditioningPresent := 1, pcond := 90, tcond := 15 } := by
  decide +kernel

/-- A REPORT of -600 in READY at 20 degrees, its bytes written out from 10.7. -/
theorem test_decode_report :
    reportOf ([0x32, 0xA8, 0xFD, 2, 20] ++ bytesOfWord (crc16 [0x32, 0xA8, 0xFD, 2, 20]))
      = some { power := BitVec.ofInt 16 (-600), state := 2, temperature := 20 } := by decide +kernel

/-- A READ_ITEM of item 12, its request bytes written out from 10.9. -/
theorem test_decode_request :
    requestOf ([1, 2, 12, 0] ++ bytesOfWord (crc16 [1, 2, 12, 0])) = some (.readItem 12 0) := by decide +kernel

/-- No row of the table gives bits. -/
theorem test_no_word : decodeTableWord 16 0x1234 = none := by decide

/-! ## Vehicle line (Chapter 1) -/

/-- The thresholds of the pilot table of 1.1, at both sides of each. -/
theorem test_pilot_thresholds :
    [13001, 13000, 10500, 10499, 7500, 7499, 4500, 4499, 1000, 999].map pilotClassOf
      = [.shortHigh, .none, .none, .present, .present, .energy, .energy, .invalid, .invalid, .shortLow] := by decide

/-- The third sample of class PRESENT confirms it, aborts a loop test, whose error count stays, and starts a link-up
with session 1 (1.1, 1.3, 1.8). -/
theorem test_connectorSample_linkUp :
    let s := (listening post).setVehicle
      { VehicleLine.reset with
        pilotHistory := [.present, .present], proximity := .closed, loopResult := .running, loopErrors := 2 }
    let t := after (.connectorSample 9000 true true) s
    t.vehicle.session = 1 ∧ t.tracker.readiness = .linking ∧ t.vehicle.waiting = [.hello 1 3 1500]
      ∧ t.vehicle.loopResult = .aborted ∧ t.vehicle.loopErrors = 2 ∧ t.service.pendingCauses = 2048 := by decide

/-- A session without an outcome whose Enow a hand-over has brought to Efloor, 2150, since the last recompute ends MET,
1 below it SHORT, and SHORT while Enow is absent; the last countdown step taken first gives the same (2.6). -/
theorem test_settledOutcome :
    let s := fun enow => (linked.setAccount { linked.account with enow := enow }).setTracker
      { linked.tracker with countdown := some 1, minuteTimer := some 0 }
    (s (some 2150)).settledOutcome = .met ∧ (s (some 2149)).settledOutcome = .short
      ∧ (s none).settledOutcome = .short
      ∧ (after .minuteTimerExpiry (s (some 2150))).tracker.outcome = some .met
      ∧ (after .minuteTimerExpiry (s (some 2149))).tracker.outcome = some .short
      ∧ (after .minuteTimerExpiry (s none)).settledOutcome = .short := by decide +kernel

/-- A pilot confirmed PRESENT in an accepting session withdraws the claim and lowers A; ENERGY restores the claim, and A
waits for an allocation (1.4, 2.3, 6.7). -/
theorem test_connectorSample_accepting :
    let s := linked.setVehicle { linked.vehicle with pilotHistory := [.present, .present] }
    let t := after (.connectorSample 9000 true true) s
    let u := after (.connectorSample 6000 true true)
      (t.setVehicle { t.vehicle with pilotHistory := [.energy, .energy] })
    t.tracker.claim = 0 ∧ t.share.allowance = 0 ∧ u.tracker.claim = 1500 ∧ u.share.allowance = 0 := by decide +kernel

/-- The second unanswered HELLO is followed by a third (1.3). -/
theorem test_helloReplyTimerExpiry :
    (after .helloReplyTimerExpiry (helloDue 2)).vehicle.helloCount = 3
      ∧ (after .helloReplyTimerExpiry (helloDue 2)).vehicle.waiting = [.hello 7 3 1500] := by decide

/-- The oldest waiting frame leaves first. -/
theorem test_forwardFrameSend :
    let s := linked.setVehicle { linked.vehicle with waiting := [.permit 7 1050, .stop 7 .unplugged] }
    (after .forwardFrameSend s).vehicle.waiting = [.stop 7 .unplugged] := by decide

/-- An IDENT with the card of 2.9, step 1, completes the link-up: CHARGING, countdown 95, watchdog at VWD. -/
theorem test_identReceived :
    let t := after (.identReceived #v[1, 2, 3, 4, 5, 6]
      { departure := 95, eroute := 1850, conditioningPresent := 0, pcond := 0, tcond := 0 }) linkingUp
    t.tracker.readiness = .charging ∧ t.tracker.countdown = some 95 ∧ t.vehicle.watchdog = some 1000000 := by
  decide +kernel

/-- Step 1 of 2.9: Egap 730, Tmin 30, slack 65, urgency 2, claim 1500. -/
theorem test_statusReceived :
    let t := after (.statusReceived status1) linked
    t.tracker.derived = some { efloor := 2150, egap := some 730, pmax := 1500, tmin := some 30, slack := some 65
                               windowOpen := false, etarget := 3150 }
      ∧ t.tracker.urgency = 2 ∧ t.tracker.claim = 1500 := by decide

/-- A STATUS with another echo halts the session with CROSSED (1.4). -/
theorem test_statusReceived_crossed :
    let t := after (.statusReceived { status1 with echo := 8 }) linked
    t.tracker.readiness = .halted ∧ t.tracker.haltReason = some .crossed
      ∧ t.vehicle.waiting = [.stop 7 (.halt .crossed)] := by decide

/-- Step 3 of 2.9, with Enow 1820: Egap 580, Tmin 24, slack 1, CHARGING, urgency 3. -/
theorem test_cardReceived :
    let s := linked.setAccount { linked.account with enow := some 1820 }
    let t := after (.cardReceived { departure := 25, eroute := 2100, conditioningPresent := 1, pcond := 90, tcond := 15 }) s
    (t.tracker.derived.bind Derived.tmin) = some 24 ∧ t.tracker.readiness = .charging ∧ t.tracker.urgency = 3 := by
  decide +kernel

/-- A back frame of two characters has no right CRC and is counted (1.8). -/
theorem test_vehicleFrameDiscarded : (after (.vehicleFrameDiscarded [0x21, 0]) linked).vehicle.crcErrors = 1 := by decide

/-- The watchdog's expiry halts with VEHICLE_SILENT (1.6). A STATUS taken first restarts the watchdog, and the expiry
behind it does not happen (1.6, R19). -/
theorem test_vehicleWatchdogExpiry :
    let s := linked.setVehicle { linked.vehicle with watchdog := some 0 }
    (after .vehicleWatchdogExpiry s).tracker.haltReason = some .vehicleSilent
      ∧ (after .vehicleWatchdogExpiry (after (.statusReceived status1) s)).tracker.haltReason = none := by decide

/-- LOOPTEST_START is REFUSED while a session exists (1.8). -/
theorem test_looptestStart : (after .looptestStart linked).service.response
    = some { status := .refused, data := [] } := by decide

/-- LOOPTEST_STOP is REFUSED with no test running (1.8). -/
theorem test_looptestStop : (after .looptestStop linked).service.response
    = some { status := .refused, data := [] } := by decide

/-- A loop test with a frame in flight, its return window open for so long, and no error before. -/
def loopAt (index left : Nat) : State :=
  (listening post).setVehicle
    { VehicleLine.reset with proximity := .closed, loopResult := .running, loopIndex := index, loopWindow := some left }

/-- A loop test in its return window, at frame 255. -/
def looping : State := loopAt 255 5000

/-- Test frame 0 is kind 1F, index 0, then 37 j for j from 0 to 7 (1.8). -/
theorem test_testFrame : (testFrame 0).take 10 = [0x1F, 0, 0, 37, 74, 111, 148, 185, 222, 3] := by decide +kernel

/-- The last frame returned whole ends the test with PASS. -/
theorem test_testFrameReturn :
    (after (.testFrameReturn (testFrame 255)) looping).vehicle.loopResult = .pass := by decide +kernel

/-- A frame with another index is a mismatch; a further one in the same window is discarded, and decides the next
frame only when that has been sent (1.8, steps 3 to 5). -/
theorem test_testFrameReturn_further :
    let one := after (.testFrameReturn (testFrame 8)) (loopAt 7 5000)
    let two := after (.testFrameReturn (testFrame 8)) one
    let three := after (.testFrameReturn (testFrame 8)) (after .forwardFrameSend two)
    one.vehicle.loopErrors = 1 ∧ two = one ∧ three.vehicle.loopErrors = 1 ∧ three.vehicle.loopIndex = 9 := by
  decide +kernel

/-- The last frame missing ends the test with FAIL and one error; the window is not over before its 5 ms are. -/
theorem test_returnWindowExpiry :
    (after .returnWindowExpiry (loopAt 255 0)).vehicle.loopResult = .fail
      ∧ (after .returnWindowExpiry (loopAt 255 0)).vehicle.loopErrors = 1
      ∧ after .returnWindowExpiry looping = looping := by decide

/-! ## Readiness and energy (Chapters 2, 3) -/

/-- A minute after step 4 of 2.9: the tenth of its AT_RISK minutes brings the countdown to 15 and the window open. -/
theorem test_minuteTimerExpiry :
    let s := (linked.setTracker
      { linked.tracker with
        readiness := .atRisk, countdown := some 16, atRiskMinutes := 9, minuteTimer := some 0
        card := some { departure := 25, eroute := 2100, conditioning := some { pcond := 90, tcond := 15 } } }).setAccount
      { linked.account with enow := some 2039 }
    let t := after .minuteTimerExpiry s
    t.tracker.countdown = some 15 ∧ t.tracker.atRiskMinutes = 10 ∧ t.tracker.readiness = .conditioning := by
  decide +kernel

/-- Post 5 of 3.8 after its STATUS. -/
def lender (enow : Nat) : State :=
  (linked.setTracker
    { linked.tracker with
      readiness := .topped, card := some { departure := 180, eroute := 1850, conditioning := none }
      countdown := some 180, claim := 0, urgency := 0
      derived := some { efloor := 2150, egap := some 0, pmax := 1500, tmin := some 0, slack := some 180
                        windowOpen := false, etarget := 3150 } }).setAccount
    { Account.reset with enow := some enow, inResidue := 20000, energyIn := 1015, outResidue := 35700, energyOut := 3 }

/-- 3.8: at Enow 2251 one unit may be lent; at 2250 none, and the gate is BELOW_GUARD. -/
theorem test_lendableUpdate :
    (after .lendableUpdate (lender 2251)).account.lendable = 1 ∧ (after .lendableUpdate (lender 2251)).account.offer = 600
      ∧ (after .lendableUpdate (lender 2250)).account.gate = .belowGuard := by decide

/-- 3.8, hand-over 1: the out residue 35700 + 600 reaches 36000. -/
theorem test_integrate_out :
    (integrate (-600) (lender 2251).account).energyOut = 4 ∧ (integrate (-600) (lender 2251).account).outResidue = 300
      ∧ (integrate (-600) (lender 2251).account).deltaResidue = -600 := by decide

/-! ## Power stage (Chapter 8) -/

/-- Step 4 of 2.9: at 70 degrees the derate index is 6, Pderated floor(1500 x 224 / 256) = 1312. -/
theorem test_reportReceived :
    let t := after (.reportReceived { power := 1000, state := 2, temperature := 70 }) linked
    t.composer.derateIndex = 6 ∧ t.composer.pderated = 1312 ∧ t.tracker.claim = 1312 := by decide +kernel

/-- 8.7: a reported FAULT halts the session. -/
theorem test_reportReceived_fault :
    (after (.reportReceived { power := 0, state := 3, temperature := 20 }) linked).tracker.haltReason
      = some .stageFault := by decide +kernel

/-- A frame that is no REPORT is discarded. -/
theorem test_stageFrameDiscarded : after (.stageFrameDiscarded [0x32, 0, 0]) linked = linked := by decide +kernel

/-- A meter's sample below the trip level is stored and not counted. -/
theorem test_feederSample :
    let t := after (.feederSample { power := 7990, state := 0, temperature := 0 }) (running meter)
    t.composer.feederSample = some 7990 ∧ t.share.overloadCount = 0 := by decide

/-- R121, R152: in LOADING a REPORT is not counted, and the draw stays; the sample it may have left is the meter's at the
entry to LISTENING, and no post's. -/
theorem test_feederSample_loading :
    let r : WireReport := { power := 8401, state := 0, temperature := 0 }
    let fed := State.reset.setComposer { Composer.reset with feederSample := some 8401 }
    (after (.feederSample r) State.reset).share = Share.reset
      ∧ (after (.feederSample r) State.reset).composer.draw = 0
      ∧ (enterListening meter fed).composer.feederSample = some 8401
      ∧ (enterListening post fed).composer.feederSample = none := by decide

/-- 6.10: the fifth sample above 8400 starts shedding; of the excess 401 and Dpos 6000 the fraction is 69. -/
theorem test_feederSample_sheds :
    let s := ((running meter).setPeers
      { entries := [{ station := 7, role := .post, flags := 0, readiness := 3, urgency := 3, claim := 1800, held := 0
                      draw := 6000, offerUp := 0, offerDown := 0, dischargeOffer := 0, lendable := 0, feederLoad := 0
                      age := 0 }], alone := false }).setShare { Share.reset with overloadCount := 4 }
    let t := after (.feederSample { power := 8401, state := 0, temperature := 0 }) s
    t.share.shedding = true ∧ t.share.lastFraction = some 69 := by decide +kernel

/-- 8.11, period 5, from ramped 1200 and A 1238: Ar 1238, output and demand 1230, residue 8. -/
theorem test_controlPeriod :
    let s := (linked.setShare { linked.share with allowance := 1238 }).setComposer { linked.composer with ramped := 1200 }
    let t := after .controlPeriod s
    t.composer.ramped = 1238 ∧ t.composer.demand = 1230 ∧ t.composer.residue = 8 := by decide +kernel

/-- 8.11, period 11: target 1112 and residue 8 give 1120 with residue 0. -/
theorem test_dither : dithered 10 0 1500 1112 8 = (1120, 0) ∧ dithered 10 0 1235 1235 5 = (1230, 0) := by decide

/-- STAGE_SILENT with the silent count at 5 sets the draw to 0 and halts the session; at 4 it changes nothing. -/
theorem test_stageSilent :
    let t := after .stageSilent (linked.setComposer { linked.composer with silentCount := 5 })
    let four := linked.setComposer { linked.composer with silentCount := 4 }
    t.composer.draw = 0 ∧ t.tracker.haltReason = some .stageSilent ∧ after .stageSilent four = four := by decide

/-- The idle timer at IDLE seconds returns RUN to STANDBY. -/
theorem test_idleTimerExpiry :
    (after .idleTimerExpiry (linked.setComposer { linked.composer with idleTimer := 60000 })).composer.mode = .standby := by
  decide

/-- The wake timer at 10 s: STANDBY and STAGE_TIMEOUT; found in VACANT, the condition still stands in item 6 (8.7). -/
theorem test_wakeTimerExpiry :
    let t := after .wakeTimerExpiry (linked.setComposer { linked.composer with mode := .wake, wakeTimer := some 10000000 })
    let vacant := after .wakeTimerExpiry
      ((listening post).setComposer { Composer.reset with mode := .wake, wakeTimer := some 10000000 })
    t.composer.mode = .standby ∧ t.tracker.haltReason = some .stageTimeout
      ∧ vacant.tracker.readiness = .vacant
      ∧ (composerBytes vacant).drop ((composerBytes vacant).length - 4) = [1, 0, 0, 0] := by decide +kernel

/-- A wake timer one µs short of 10 s has not run out. -/
theorem test_wakeTimerExpiry_early :
    let s := linked.setComposer { linked.composer with mode := .wake, wakeTimer := some 9999999 }
    after .wakeTimerExpiry s = s := by decide

/-! ## Depot link and peer table (Chapters 4, 5) -/

/-- A station at the end of its listen period. -/
def listened (w : WorkingCopy) : State :=
  (listening w).setLink { (listening w).link with listenTimer := some 0 }

/-- The listen period ends in RUNNING; the seed of station 3 is 771 (4.3). -/
theorem test_listenTimerExpiry :
    let t := after .listenTimerExpiry (listened post)
    t.link.station = .running ∧ t.peers.alone = true ∧ sequenceSeed 3 = 771 ∧ t.share.lastAllocation = some 0 := by
  decide +kernel

/-- A meter sets no last allocation time (6.1, 6.7). -/
theorem test_listenTimerExpiry_meter :
    (after .listenTimerExpiry (listened meter)).share = Share.reset := by decide +kernel

/-- A station whose announce timer has run out. -/
def announcing (s : State) : State := s.setLink { s.link with announceTimer := some 0 }

/-- An ANNOUNCE of post 3 carries station 3, role 1, urgency 2 and claim 1500. -/
theorem test_announceTimerExpiry :
    (after .announceTimerExpiry (announcing linked)).link.announceHand.map (fun h => (h.frame.station, h.frame.role, h.frame.claim))
      = some (3, 1, 1500) := by decide +kernel

/-- An ANNOUNCE in hand, attempted so many times. -/
def inHand (attempts : Nat) : State :=
  linked.setLink
    { linked.link with announceTimer := none, announceHand := some { frame := announce3, attempts := attempts } }

/-- 40 µs of idle line are enough for a first attempt, and station 3 waits 340 µs for the next (4.4). -/
theorem test_transmissionStart :
    (after (.transmissionStart 40) (inHand 0)).link.transmitting = some .announce
      ∧ (after (.transmissionStart 39) (inHand 0)).link.transmitting = none
      ∧ (after (.transmissionStart 339) (inHand 1)).link.transmitting = none
      ∧ (after (.transmissionStart 340) (inHand 1)).link.transmitting = some .announce := by decide +kernel

/-- The backoff of station 3, 340 µs, counts from the end of the last stop bit: a line 1000 µs idle that a command
senses 50 µs after other activity is not ready, and 340 µs after an own collision the clock has counted them (4.4). -/
theorem test_transmissionStart_counted :
    let t := after (.transmissionStart 340) (after .collision (after (.transmissionStart 40) (inHand 0)))
    (after (.transmissionStart 50) ((inHand 1).setLink { (inHand 1).link with idleTime := 1000 })).link.transmitting = none
      ∧ t.link.transmitting = some .announce ∧ t.clock = 380 := by decide +kernel

/-- The fragment left of a collision is not delivered, nor a frame that started together with the own one, right as it
may be; the reception after it is, and so is a fresh frame at once, 40 µs of idle line and 1048 µs later (4.1, 4.4,
4.5). -/
theorem test_receptionEnd_deaf :
    let s := after .collision (after (.transmissionStart 40) (inHand 0))
    s.link.idleTime = 0 ∧ s.link.receiver = .deaf 0
      ∧ (after (.receptionEnd ⟨false, [1, 2]⟩) s).link.crcErrors = 0
      ∧ (after (.receptionEnd ⟨true, [1, 2]⟩) (after (.receptionEnd ⟨false, [1, 2]⟩) s)).link.crcErrors = 1
      ∧ (after (.announceReceived ⟨false, announce3⟩) s).link.goodFrames = 0
      ∧ (after (.announceReceived ⟨true, announce3⟩) s).link.goodFrames = 1
      ∧ (after (.announceReceived ⟨true, announce3⟩) s).clock = s.clock + 1088 := by decide +kernel

/-- A line found idle 10 µs ago, and 30 µs more: the announce timer expires, the ANNOUNCE starts, and the reception that
ended at that instant is a clash that stops it (4.5, 4.7). -/
theorem test_announceTimerExpiry_clash :
    let s := after .announceTimerExpiry ((after (.transmissionStart 10) (announcing linked)).elapse 30)
    let t := after (.transmissionStart 40) s
    let u := after (.announceReceived ⟨true, { announce3 with station := 3 }⟩) t
    t.link.transmitting = some .announce ∧ u.link.station = .clash ∧ u.link.transmitting = none := by decide +kernel

/-- The same ANNOUNCE in transmission. -/
def sending (attempts : Nat) : State :=
  (inHand attempts).setLink { (inHand attempts).link with transmitting := some .announce, receiver := .deaf 0 }

/-- The fourth collision drops the frame and counts it (4.4). -/
theorem test_collision :
    (after .collision (sending 4)).link.dropped = 1 ∧ (after .collision (sending 4)).link.announceHand = none
      ∧ (after .collision (sending 3)).link.dropped = 0 := by decide +kernel

/-- A peer entry of 5.5. -/
def entry (station urgency claim held : Nat) (draw : Int) (up down discharge : Nat) : Peer :=
  { station := station, role := .post, flags := 0, readiness := 3, urgency := urgency, claim := claim, held := held
    draw := draw, offerUp := up, offerDown := down, dischargeOffer := discharge, lendable := 0, feederLoad := 0, age := 0 }

/-- The table of 5.5. -/
def table : List Peer :=
  [entry 7 3 1800 1200 1750 50 1750 0, entry 9 2 1500 1500 1480 20 1480 0, entry 12 1 2000 0 1240 260 1240 0,
   entry 15 0 900 0 730 170 730 0, entry 18 0 0 0 (-300) 0 600 600,
   { entry 21 0 0 0 0 0 0 0 with role := .meter, feederLoad := 7150 }]

/-- Post 3 of 6.16 at its allocation, its own ANNOUNCE in transmission, 247 ms after the last. -/
def allocating : State :=
  { sending 1 with
    peers := { entries := table, alone := false }
    tracker := { linked.tracker with urgency := 1 }
    reserve := { Reserve.reset with state := .measuring, offerUp := 500, offerDown := 1000 }
    clock := 247000 }

/-- Allocation 1 of 6.16: budget 6190, A 1238, tenure ON with H 1238 and 120 000 ms, contested. -/
theorem test_transmissionComplete :
    let t := after .transmissionComplete allocating
    t.share.budget.map Budget.budget = some 6190 ∧ t.share.allowance = 1238 ∧ t.share.held = 1238
      ∧ t.share.tenureLeft = 120000 ∧ t.share.contested = true := by decide +kernel

/-- Allocation 2 of 6.16, 251 ms later: A 1429, H 1238, 119 749 ms left. -/
theorem test_transmissionComplete_tenure :
    let s := (allocating.setShare
      { allocating.share with
        allowance := 1238, held := 1238, tenure := true, tenureLeft := 120000, lastAllocation := some 247000 }).setClock 498000
    let t := after .transmissionComplete s
    t.share.allowance = 1429 ∧ t.share.held = 1238 ∧ t.share.tenureLeft = 119749 := by decide +kernel

/-- The sums of 5.5: D 5900, Dpos 6200, and the demands of tiers 7 down to 0. -/
theorem test_sums :
    totalDraw allocating.contributions = 5900 ∧ positiveDraw allocating.contributions = 6200
      ∧ tierOrder.map (fun t => tierDemand t allocating.contributions) = [1200, 600, 1500, 0, 0, 3500, 0, 900] := by
  decide +kernel

/-- A bad CRC is counted as a CRC error. -/
theorem test_receptionEnd :
    (after (.receptionEnd ⟨true, [0x02, 21, 68, 0, 0, 0]⟩) linked).link.crcErrors = 1 := by decide +kernel

/-- Post 9's ANNOUNCE of 5.5, held as sent 1600 above its claim 1500, is stored with held 1500 (5.1). -/
theorem test_announceReceived :
    (after (.announceReceived ⟨true, { announce3 with station := 9, claim := 1500, held := 1600 }⟩) linked).peers.entries.map
      (fun p => (p.station, p.held, p.age)) = [(9, 1500, 0)] := by decide +kernel

/-- The own number in RUNNING is a clash. -/
theorem test_announceReceived_clash :
    let t := after (.announceReceived ⟨true, { announce3 with station := 3 }⟩) linked
    t.link.station = .clash ∧ t.peers.entries = [] ∧ t.share.allowance = 0 := by decide +kernel

/-- The SHED of 6.16: f 68 cuts 1429 to 1334. -/
theorem test_shedReceived :
    let s := linked.setShare { linked.share with allowance := 1429, held := 1238, tenure := true, tenureLeft := 119749 }
    let t := after (.shedReceived ⟨true, { station := 21, fraction := 68 }⟩) s
    t.share.allowance = 1334 ∧ t.share.held = 1238 ∧ t.share.shedCap = 1334 ∧ t.share.shedTimer = some 5000000 := by
  decide +kernel

/-- A fraction of 1025 is malformed, and a SHED heard in CLASH is counted good and discarded (4.5). -/
theorem test_shedReceived_discarded :
    let t := after (.shedReceived ⟨true, { station := 21, fraction := 68 }⟩) (inState .clash post)
    (after (.shedReceived ⟨true, { station := 21, fraction := 1025 }⟩) linked).link.malformed = 1
      ∧ t.link.goodFrames = 1 ∧ t.service.pendingCauses = 0 := by decide +kernel

/-- One entry heard, station 7, of an age in µs. -/
def heardAt (age : Nat) : State :=
  linked.setPeers { entries := [{ entry 7 3 1800 1200 1750 50 1750 0 with age := age }], alone := false }

/-- The last entry ages out at T_sil, 4 x 250 ms, and ALONE is entered (5.1, 5.4). -/
theorem test_peerEntryExpiry :
    (after (.peerEntryExpiry 7) (heardAt 1000000)).peers = { entries := [], alone := true } := by decide +kernel

/-- Both orders of R88: the ANNOUNCE first, and no removal happens; the removal first, and ALONE_ENTERED stays pending.
After both the table holds the same entry. -/
theorem test_peerEntryExpiry_order :
    let one := after (.peerEntryExpiry 7) (after (.announceReceived ⟨true, announce3⟩) (heardAt 1000000))
    let two := after (.announceReceived ⟨true, announce3⟩) (after (.peerEntryExpiry 7) (heardAt 1000000))
    one.peers = two.peers ∧ one.peers.alone = false ∧ one.peers.entries.map Peer.age = [0]
      ∧ one.service.pendingCauses = 0 ∧ two.service.pendingCauses = 64 := by decide +kernel

/-- Shed-hold ends and A stays. -/
theorem test_shedHoldExpiry :
    let t := after .shedHoldExpiry
      (linked.setShare { linked.share with shedHold := true, shedTimer := some 0, shedCap := 1301 })
    t.share.shedHold = false ∧ t.share.allowance = 1000 ∧ t.share.shedCap = 1301 := by decide

/-! ## Reserve (Chapter 7) -/

/-- Post 14 of 7.10 before measurement 1, four edges counted. -/
def measuring (history : List Int) : State :=
  (linked.setReserve
    { Reserve.reset with
      state := .measuring, history := history, offerUp := 260, offerDown := 1240, downShare := 232, upShare := 104
      measurement := some { start := 1000, edges := 4, periodSum := 80000 }, edgeTimeout := some 0 })

/-- Measurement 1 of 7.10: 100 250 µs is 49 875 mHz, active deviation -118, droop 557, response -126. -/
theorem test_mainsEdge :
    let t := after (.mainsEdge 101250) (measuring [-4, -131, -118])
    t.reserve.lastFrequency = some 49875 ∧ t.reserve.active = -118 ∧ t.reserve.droop = 557 ∧ t.reserve.response = -126
      ∧ t.clock = 101250 := by decide +kernel

/-- Measurement 2 of 7.10: 80 000 µs is 62 500 mHz, implausible; the history is kept. A period sum of 0 is implausible
as well, with no frequency. -/
theorem test_mainsEdge_implausible :
    let t := after (.mainsEdge 81000) (measuring [-131, -118, -125])
    let zero := (after (.mainsEdge 1000) (measuring [-131, -118, -125])).reserve
    zero.lastFrequency = none ∧ zero.implausibleCount = 1 ∧
    t.reserve.lastFrequency = some 62500 ∧ t.reserve.plausible = false ∧ t.reserve.history = [-131, -118, -125]
      ∧ t.reserve.implausibleCount = 1 := by decide +kernel

/-- The tenth edge timeout in a row loses the mains (7.3). -/
theorem test_edgeTimeout :
    let s := (measuring [0, 0, 0]).setReserve { (measuring [0, 0, 0]).reserve with implausibleCount := 9 }
    (after .edgeTimeout s).reserve.state = .mainsLost ∧ (after .edgeTimeout s).reserve.edgeTimeout = some 50000 := by
  decide +kernel

/-- The 50 ms run from the edge, here one within a ms: 1 µs before their end nothing is abandoned (7.2). -/
theorem test_edgeTimeout_early :
    let s := (after (.mainsEdge 1500) linked).elapse 49999
    s.reserve.edgeTimeout = some 1 ∧ after .edgeTimeout s = s
      ∧ (after .edgeTimeout (s.elapse 1)).reserve.implausibleCount = 1 := by decide +kernel

/-- The offers of 7.10: 1240 down and 260 up. -/
theorem test_offerCompute :
    let s := (linked.setComposer { linked.composer with draw := 1240 }).setReserve { Reserve.reset with state := .measuring }
    (after .offerCompute s).reserve.offerDown = 1240 ∧ (after .offerCompute s).reserve.offerUp = 260 := by decide +kernel

/-- The shares of 7.10: 232 of 1200 and 104 of 400. -/
theorem test_shareOf : shareOf 1200 4 false 1240 6400 = (232, false) ∧ shareOf 400 4 false 260 1000 = (104, false) := by
  decide

/-! ## Configuration and service port (Chapters 9, 10) -/

/-- What began before a start reset, beside a cut-off own frame or not, is not counted, right as it may be; the first
reception that begins after it is (4.8). -/
theorem test_startReset_cutOff :
    let s := after .startReset (sending 1)
    let t := after .startReset linked
    (after (.receptionEnd ⟨false, [1, 2]⟩) s).link.crcErrors = 0 ∧ (after (.receptionEnd ⟨true, [1, 2]⟩) s).link.crcErrors = 1
      ∧ (after (.announceReceived ⟨false, announce3⟩) s).link.goodFrames = 0
      ∧ (after (.announceReceived ⟨false, announce3⟩) t).link.goodFrames = 0
      ∧ (after (.receptionEnd ⟨true, [1, 2]⟩) t).link.crcErrors = 1 := by decide +kernel

/-- A start reset enters LOADING and keeps the external memory (9.2). -/
theorem test_startReset :
    let t := after .startReset (linked.setStore { linked.store with memory := [(0, 0xD3)] })
    t.link.station = .loading ∧ t.store.memory = [(0, 0xD3)] ∧ t.tracker.readiness = .vacant := by decide

/-- A blank memory has no signature. -/
theorem test_loadComplete :
    (after .loadComplete State.reset).store.loadResult = .signature
      ∧ (after .loadComplete State.reset).link.station = .unconfigured := by decide +kernel

/-- A read unanswered after 1 byte: NO_ANSWER, the byte kept. -/
theorem test_configMemoryTimeout :
    let t := after (.configMemoryTimeout 1) (State.reset.setStore (Store.reset [(0, 0xD3), (1, 0x5A)]))
    t.store.loadResult = .noAnswer ∧ t.store.shadow = [(0, 0xD3)] := by decide

/-- 9.3: DB 600 and FULL 550 give 500 and 550; S2 700 and S3 650 give 600 and 600; NOMF 55 gives 50. -/
theorem test_clampCopy :
    let w := clampCopy { post with db := 600, full := 550, s2 := 700, s3 := 650, nomf := 55 }
    w.db = 500 ∧ w.full = 550 ∧ w.s2 = 600 ∧ w.s3 = 600 ∧ w.nomf = 50 := by decide

/-- With PROTECT 2, offset 31 is protected and offset 32 is not (9.4). -/
theorem test_writeShadow :
    (after (.writeShadow 31 [1, 2]) linked).service.response = some { status := .protectedPage, data := [] }
      ∧ (after (.writeShadow 32 [1, 2]) linked).store.shadow = [(32, 1), (33, 2)] := by decide

/-- A WRITEBACK is BUSY outside VACANT (9.5). -/
theorem test_writeback :
    (after .writeback linked).service.response = some { status := .busy, data := [] } := by decide

/-- A page that reads back as the shadow's moves the write-back on. -/
theorem test_writebackPageDone :
    let s := (listening post).setStore { (listening post).store with writebackRunning := true, writebackPage := 2 }
    let t := after (.writebackPageDone (Vector.replicate 16 0)) s
    t.store.writebackPage = 3 ∧ t.store.writebackRunning = true := by decide +kernel

/-- A RESTART is BUSY while a write-back runs; where it is taken, the session is told RESTART (9.6, 10.6). -/
theorem test_restart :
    (after .restart (linked.setStore { linked.store with writebackRunning := true })).service.response
        = some { status := .busy, data := [] }
      ∧ (releaseBlocks linked).vehicle.waiting = [.stop 7 .restart]
      ∧ (endLoad linked).link.station = .unconfigured := by decide +kernel

/-- 10.2: the set AT_RISK_ENTERED, SHED_HEARD is read and emptied, and the line released. -/
theorem test_attnRead :
    let s := linked.setService { linked.service with pendingCauses := 0x081 }
    s.attention = true ∧ (after .attnRead s).service.response = some { status := .ok, data := [0x81, 0] }
      ∧ (after .attnRead s).attention = false := by decide

/-- 10.2: SHED_HEARD raised while disarmed asserts the line at the re-arm. -/
theorem test_attnRearm :
    let s := linked.setService { linked.service with pendingCauses := 0x080, armed := false }
    s.attention = false ∧ (after .attnRearm s).attention = true := by decide

/-- Item 13 is not in the table, and index 1 does not fit item 8. -/
theorem test_readItem :
    (after (.readItem 13 0) linked).service.response = some { status := .rangeError, data := [] }
      ∧ (after (.readItem 8 1) linked).service.response = some { status := .rangeError, data := [] }
      ∧ (heardAt 999999).peers.entries.map (fun p => (itemPeer p).drop 21) = [[0xE7, 0x03, 0, 0]] := by decide

/-- The conditioning window stands at offset 33 of item 2 after its presence byte: absent in VACANT, present and closed
in CHARGING, where the card takes 9 bytes, the countdown 2, Efloor and Egap 5 each, Pmax and Tmin 3 each, slack 5 (2.2,
10.10). -/
theorem test_readItem_window :
    ((itemReadiness (listening post)).drop 33).take 2 = [0, 0] ∧ ((itemReadiness linked).drop 33).take 2 = [1, 0] := by
  decide

/-- An empty buffer is clocked out as FF and then 00. -/
theorem test_readTransfer : (after (.readTransfer 3) linked).service.tx = [0xFF, 0, 0] := by decide

/-- Too few bytes: REFUSED. -/
theorem test_serviceRequestInvalid :
    (after (.serviceRequestInvalid [7]) linked).service.response = some { status := .refused, data := [] } := by decide

/-- A WRITEBACK with two bytes after its CRC is answered BUSY, and the part clocks out 00 for the whole transfer (10.1).
-/
theorem test_serviceRequestInvalid_longer :
    let t := after (.serviceRequestInvalid ([3, 0] ++ bytesOfWord (crc16 [3, 0]) ++ [9, 9])) linked
    t.service.response = some { status := .busy, data := [] } ∧ t.service.tx = [0, 0, 0, 0, 0, 0] := by decide +kernel

/-- The front command runs; an empty queue lets 1 µs pass. -/
theorem test_step :
    step (State.reset.setPending [.attnRead, .attnRearm]) = exec .attnRead (State.reset.setPending [.attnRearm])
      ∧ step State.reset = .next State.reset.tick := ⟨rfl, rfl⟩

/-! ## States and operands that meet the hypotheses of the obligations -/

theorem meets_StepRunsTheFrontCommand : (State.reset.setPending [.attnRead]).pending = [.attnRead] := rfl

/-- Ages and the wake timer on both sides of their limits, and a line that the station drives and one it does not. -/
theorem meets_IdleStepIsOneMicrosecond :
    let waking := fun e => linked.setComposer { linked.composer with wakeTimer := some e }
    State.reset.pending = [] ∧ linked.pending = [] ∧ (heardAt 999999).silentTime = 1000000
      ∧ (heardAt 999999).peers.entries.map Peer.age = [999999]
      ∧ (heardAt 1000000).peers.entries.map Peer.age = [1000000]
      ∧ (heardAt 1000001).peers.entries.map Peer.age = [1000001]
      ∧ (waking 9999999).composer.wakeTimer = some 9999999 ∧ (waking 10000000).composer.wakeTimer = some 10000000
      ∧ (waking 10000001).composer.wakeTimer = some 10000001
      ∧ linked.composer.wakeTimer = none ∧ linked.link.transmitting = none
      ∧ (sending 1).link.transmitting = some .announce := by decide

/-- A write-back is cut off at page 2: addresses 31 and 48 lie outside it. -/
theorem meets_StartResetClearsEveryBlock :
    let s := linked.setStore { linked.store with writebackRunning := true, writebackPage := 2 }
    linked.store.writebackRunning = false ∧ s.store.writebackRunning = true ∧ Mem.wf s.store.memory = true
      ∧ 31 < 16 * s.store.writebackPage ∧ 16 * s.store.writebackPage + 16 ≤ 48 := by decide

/-- An image that passes the five checks: station 3, role POST, every other byte 0, and the CRC of R170. -/
def image : Mem := [(0, 0xD3), (1, 0x5A), (2, 1), (3, 3), (4, 1), (254, 0x26), (255, 0x6C)]

theorem image_crc : crc16 (readBytes image 0 254) = readWord image 254 := by
  have h : readBytes image 0 254
      = readBytes image 0 64 ++ (List.replicate 64 0 ++ (List.replicate 64 0 ++ List.replicate 62 0)) := by
    decide +kernel
  have h1 : (readBytes image 0 64).foldl crcByte 0xFFFF#16 = 62659#16 := by decide +kernel
  have h2 : (List.replicate 64 (0 : Byte)).foldl crcByte 62659#16 = 38504#16 := by decide +kernel
  have h3 : (List.replicate 64 (0 : Byte)).foldl crcByte 38504#16 = 6860#16 := by decide +kernel
  have h4 : (List.replicate 62 (0 : Byte)).foldl crcByte 6860#16 = 27686#16 := by decide +kernel
  rw [h, crc16, List.foldl_append, List.foldl_append, List.foldl_append, h1, h2, h3, h4]
  decide

theorem image_sound : structuralError image = none := by
  unfold structuralError imageCrc
  rw [image_crc]
  decide

/-- With no vehicle connected, and with one that starts a link-up; the derate index of no temperature, and of 70, -128
and 127 degrees. -/
theorem meets_SoundImageEndsTheLoadInListening :
    (State.reset.composer.temperature = none ∧ (6 : Int) = max 0 (min 15 ((70 - 40) / 5))
      ∧ (0 : Int) = max 0 (min 15 ((-128 - 40) / 5)) ∧ (15 : Int) = max 0 (min 15 ((127 - 40) / 5))) ∧
    let s := State.reset.setStore (Store.reset image)
    let v := s.setVehicle { s.vehicle with pilot := .present }
    s.link.station = .loading ∧ s.tracker.readiness = .vacant ∧ s.vehicle.pilot = .none
      ∧ v.link.station = .loading ∧ v.tracker.readiness = .vacant ∧ v.vehicle.pilot = .present
      ∧ (formCopy image).role = .post ∧ below 256 s.store.memory = image
      ∧ readByte image 0 = 0xD3 ∧ readByte image 1 = 0x5A ∧ readByte image 2 = 1
      ∧ crc16 (readBytes image 0 254) = readWord image 254
      ∧ 1 ≤ (readByte image 3).toNat ∧ (readByte image 3).toNat ≤ 32 ∧ readByte image 4 = 1 := by
  refine ⟨?_, ?_, ?_, ?_, ?_, ?_, ?_, ?_, ?_, ?_, ?_, ?_, image_crc, ?_, ?_, ?_⟩ <;> decide

/-- A blank memory, and an image for each check that fails: the version, the CRC of a changed byte, and station 33 and
role 3 behind a CRC check that passes. -/
theorem meets_FailedLoadEndsInUnconfigured :
    let version := writeBytes image 2 [2]
    let changed := writeBytes image 254 [0x27]
    State.reset.link.station = .loading ∧ structuralError (below 256 State.reset.store.memory) = some .signature
      ∧ 255 < 256 ∧ Mem.wf State.reset.store.memory = true
      ∧ readByte version 0 = 0xD3 ∧ readByte version 1 = 0x5A ∧ readByte version 2 ≠ 1
      ∧ readByte changed 2 = 1 ∧ crc16 (readBytes image 0 254) = readWord image 254
      ∧ readWord changed 254 ≠ readWord image 254 ∧ 32 < (33 : Byte).toNat ∧ (0 : Byte) = 0
      ∧ (readByte image 3).toNat ≤ 32 ∧ readByte image 4 = 1 ∧ (3 : Byte) ≠ 1 ∧ (3 : Byte) ≠ 2 := by
  refine ⟨?_, ?_, ?_, ?_, ?_, ?_, ?_, ?_, image_crc, ?_, ?_, ?_, ?_, ?_, ?_, ?_⟩ <;> decide

/-- An image whose GUARD 101, DB 512 and FULL 1024 lie above their ranges and whose NOMF is 56; in `image` ISLDIV 0,
KSIL 0 and NOMF 0 lie below theirs, and DB 0 and PROTECT 0 in theirs. -/
def highImage : Mem :=
  [(0, 0xD3), (1, 0x5A), (2, 1), (3, 32), (4, 2), (20, 101), (26, 56), (28, 2), (30, 4), (254, 242), (255, 136)]

theorem highImage_crc : crc16 (readBytes highImage 0 254) = readWord highImage 254 := by
  have h : readBytes highImage 0 254
      = readBytes highImage 0 64 ++ (List.replicate 64 0 ++ (List.replicate 64 0 ++ List.replicate 62 0)) := by
    decide +kernel
  have h1 : (readBytes highImage 0 64).foldl crcByte 0xFFFF#16 = 14245#16 := by decide +kernel
  have h2 : (List.replicate 64 (0 : Byte)).foldl crcByte 14245#16 = 2700#16 := by decide +kernel
  have h3 : (List.replicate 64 (0 : Byte)).foldl crcByte 2700#16 = 33258#16 := by decide +kernel
  have h4 : (List.replicate 62 (0 : Byte)).foldl crcByte 33258#16 = 35058#16 := by decide +kernel
  rw [h, crc16, List.foldl_append, List.foldl_append, List.foldl_append, h1, h2, h3, h4]
  decide

theorem meets_FormedCopyLiesInRange :
    structuralError image = none ∧ structuralError highImage = none
      ∧ (storedCopy image).isldiv < 1 ∧ (storedCopy image).ksil < 2 ∧ (storedCopy image).db ≤ 500
      ∧ (storedCopy image).nomf ≤ 55 ∧ 55 < (storedCopy highImage).nomf ∧ 100 < (storedCopy highImage).guard
      ∧ 500 < (storedCopy highImage).db ∧ 1000 < (storedCopy highImage).full := by
  refine ⟨image_sound, ?_, ?_, ?_, ?_, ?_, ?_, ?_, ?_, ?_⟩
  · unfold structuralError imageCrc
    rw [highImage_crc]
    decide
  all_goals decide

/-- A write-back at page 14, which advances, and at page 15, which completes. -/
theorem meets_WritebackAdvancesCompletesOrFails :
    let s := fun n => (listening post).setStore
      { (listening post).store with writebackRunning := true, writebackPage := n }
    (s 14).link.station ≠ .loading ∧ (s 14).store.writebackRunning = true ∧ (s 14).store.writebackPage = 14
      ∧ Mem.wf (s 14).store.memory = true ∧ 14 < 15 ∧ (s 15).store.writebackPage = 15
      ∧ (Vector.replicate 16 0 : Page).toList = readBytes (s 14).store.shadow (16 * 14) 16
      ∧ (Vector.replicate 16 1 : Page).toList ≠ readBytes (s 14).store.shadow (16 * 14) 16 := by decide +kernel

/-- The third sample of PRESENT agrees; a first one does not. The acceptance of 2.9's session withdrawn and restored. -/
theorem meets_ThreeAgreeingSamplesConfirm :
    let s := (listening post).setVehicle
      { VehicleLine.reset with
        pilotHistory := [.none, .present, .present], proximityHistory := [.closed, .closed]
        earthHistory := [.ok, .ok] }
    let withdrawn := (linked.setVehicle
      { linked.vehicle with pilotHistory := [.present, .present] }).vehicle.sampled .present .closed .ok
    let present := linked.setVehicle
      { linked.vehicle with pilot := .present, pilotHistory := [.energy, .energy] }
    (linked.store.working = some post ∧ linked.tracker.card.isSome = true ∧ linked.tracker.countdown = some 95
        ∧ linked.tracker.readiness.linked = true ∧ linked.vehicle.lastStatus = some status1
        ∧ status1.flags.getLsbD 0 = true ∧ status1.flags.getLsbD 1 = true
        ∧ withdrawn.pilot = .present ∧ linked.vehicle.pilot = .energy ∧ withdrawn.proximity = .closed
        ∧ withdrawn.earth = .ok ∧ (present.vehicle.sampled .energy .closed .ok).pilot = .energy
        ∧ present.vehicle.pilot ≠ .energy)
      ∧ s.vehicle.pilotHistory = [.none] ++ [pilotClassOf 9000, pilotClassOf 9000]
      ∧ s.vehicle.proximityHistory = [] ++ [proximityOf true, proximityOf true]
      ∧ s.vehicle.earthHistory = [] ++ [earthOf true, earthOf true]
      ∧ ∀ older, (listening post).vehicle.pilotHistory ≠ older ++ [pilotClassOf 9000, pilotClassOf 9000] := by
  refine ⟨by decide, rfl, rfl, rfl, fun older h => ?_⟩
  have := congrArg List.length h
  simp [listening, inState, State.reset, VehicleLine.reset, State.setLink] at this

/-- With and without a loop test that the sample ends. -/
theorem meets_ConnectedVehicleStartsLinkUp :
    let s := fun result => (listening post).setVehicle
      { VehicleLine.reset with
        pilotHistory := [.present, .present], proximity := .closed, proximityHistory := [.closed, .closed]
        loopResult := result }
    let v := fun result => (s result).vehicle.sampled (pilotClassOf 7500) (proximityOf true) (earthOf true)
    (s .none).store.working = some post ∧ post.role = .post ∧ (s .none).link.station = .listening
      ∧ (s .none).tracker.readiness = .vacant ∧ (s .running).vehicle.loopResult = .running
      ∧ (v .running).pilot ≠ (s .running).vehicle.pilot
      ∧ (v .none).pilot = .present ∧ (v .none).proximity = .closed ∧ (v .none).earth = .ok := by decide

/-- The third sample of SHORT_LOW halts, in a session and during a loop test. -/
theorem meets_StandingFaultHalts :
    let s := linked.setVehicle { linked.vehicle with pilotHistory := [.shortLow, .shortLow] }
    let l := (loopAt 7 5000).setVehicle { (loopAt 7 5000).vehicle with pilotHistory := [.shortLow, .shortLow] }
    s.isPost = true ∧ s.link.station = .running ∧ s.tracker.readiness ≠ .halted
      ∧ (s.vehicle.sampled (pilotClassOf 999) (proximityOf true) (earthOf true)).pilot = .shortLow
      ∧ s.vehicle.sessionOpen = true ∧ 0 < s.share.allowance
      ∧ l.isPost = true ∧ l.link.station = .listening ∧ l.tracker.readiness ≠ .halted ∧ l.vehicle.loopResult = .running
      ∧ (l.vehicle.sampled (pilotClassOf 999) (proximityOf true) (earthOf true)).pilot = .shortLow := by decide

/-- The third sample of NONE ends a session, a halt without a session, and an invalid pilot in VACANT. -/
theorem meets_ConfirmedNoneEndsTheSession :
    let s := linked.setVehicle { linked.vehicle with pilotHistory := [.none, .none] }
    let h := (s.setVehicle { s.vehicle with sessionOpen := false }).setTracker { Tracker.reset with readiness := .halted }
    let v := h.setTracker Tracker.reset
    (s.vehicle.sampled (pilotClassOf 10500) (proximityOf false) (earthOf true)).pilot = .none
      ∧ s.vehicle.pilot ≠ .none ∧ s.vehicle.sessionOpen = true
      ∧ (h.vehicle.sampled (pilotClassOf 13000) (proximityOf false) (earthOf true)).pilot = .none
      ∧ h.vehicle.pilot ≠ .none ∧ h.vehicle.sessionOpen = false ∧ h.tracker.readiness = .halted
      ∧ v.vehicle.sessionOpen = false ∧ v.tracker.readiness = .vacant
      ∧ s.egapNow = some 730 ∧ v.egapNow = none := by decide

theorem meets_UnansweredHelloIsRepeatedThenHalts :
    (helloDue 2).vehicle.helloTimer = some 0 ∧ (helloDue 2).tracker.readiness = .linking
      ∧ (helloDue 2).store.working = some post ∧ (helloDue 2).vehicle.helloCount < 3
      ∧ 3 ≤ (helloDue 3).vehicle.helloCount ∧ linkingUp.vehicle.helloTimer ≠ some 0 := by decide

/-- Fields at the bounds of their widths; no frame waiting, with and without a test frame that is next; and a HELLO
before a PERMIT. -/
theorem meets_ForwardFramesLeaveInOrder :
    (255 ≤ 255 ∧ 65535 ≤ 65535 ∧ -32768 ≤ (-32768 : Int) ∧ (32767 : Int) ≤ 32767) ∧
    let next := (loopAt 7 5000).setVehicle { (loopAt 7 5000).vehicle with loopWindow := none }
    linked.vehicle.waiting = [] ∧ linked.vehicle.loopResult ≠ .running
      ∧ next.vehicle.waiting = [] ∧ next.vehicle.loopResult = .running ∧ next.vehicle.loopWindow = none
      ∧ (loopAt 7 5000).vehicle.loopWindow ≠ none
      ∧ (linked.setVehicle { linked.vehicle with waiting := [.hello 7 3 1500, .permit 7 0] }).vehicle.waiting
          = .hello 7 3 1500 :: [.permit 7 0] := by decide

/-- Departures at the bounds 1441 and 65534 are taken as 1440, and 65535 as no run; at a departure of 60 the claim is
that of CONDITIONING, and at 61 it is 0. -/
theorem meets_IdentCompletesLinkUp :
    let card : WireCard := { departure := 65534, eroute := 1850, conditioningPresent := 1, pcond := 90, tcond := 61 }
    let id : VehicleId := #v[0, 0, 0, 0, 1, 0x42]
    let linked := fun departure => after (.identReceived id { card with departure := departure }) linkingUp
    ((linked 60).tracker.readiness = .conditioning ∧ (linked 60).tracker.claim = 90
      ∧ (linked 61).tracker.readiness = .charging ∧ (linked 61).tracker.claim = 0
      ∧ (linked 61).share.allowance < linkingUp.share.allowance) ∧
    linkingUp.store.working = some post ∧ linkingUp.vehicle.loopResult ≠ .running
      ∧ linkingUp.vehicle.lastStatus = none ∧ linkingUp.account.enow = none ∧ linkingUp.tracker.readiness = .linking
      ∧ RunCard.ofWire card = { departure := 1440, eroute := 1850, conditioning := some { pcond := 90, tcond := 60 } }
      ∧ (RunCard.ofWire { card with departure := 1441 }).departure = 1440
      ∧ (RunCard.ofWire { card with departure := 65535 }).departure = 65535
      ∧ Tests.linked.tracker.readiness ≠ .linking ∧ Tests.linked.vehicle.loopResult ≠ .running := by
  decide +kernel

/-- The session of 2.9, one in DUE whose outcome waits for its first STATUS, one that the STATUS of 2.9, step 1, leaves
AT_RISK, and the lender of 3.8, whose gate a STATUS closes. -/
theorem meets_MatchingStatusIsTaken :
    let due := linked.setTracker { linked.tracker with readiness := .due, countdown := some 0, outcome := none }
    let late := linked.setTracker { linked.tracker with countdown := some 29 }
    let gate := fun enow => (after (.statusReceived { status1 with eveh := enow }) (lender 2251)).account.gate
    ((after (.statusReceived status1) late).tracker.readiness = .atRisk ∧ late.tracker.readiness ≠ .atRisk
      ∧ gate 2251 = .isOpen ∧ gate 2250 = .belowGuard ∧ gate 2149 = .notTopped) ∧
    linked.store.working = some post ∧ linked.tracker.card = some { departure := 95, eroute := 1850, conditioning := none }
      ∧ linked.tracker.countdown = some 95 ∧ linked.tracker.readiness.linked = true
      ∧ linked.vehicle.loopResult ≠ .running ∧ status1.echo = linked.vehicle.session
      ∧ status1.flags.getLsbD 2 = false ∧ due.tracker.readiness.linked = true ∧ due.tracker.outcome = none
      ∧ due.tracker.countdown = some 0 := by decide +kernel

theorem meets_LinkedSessionHalts :
    linked.store.working = some post ∧ linked.tracker.card.isSome = true ∧ linked.tracker.readiness.linked = true
      ∧ linked.vehicle.sessionOpen = true ∧ linked.vehicle.loopResult ≠ .running
      ∧ ({ status1 with echo := 8 } : WireStatus).echo ≠ linked.vehicle.session
      ∧ ({ status1 with flags := 4 } : WireStatus).echo = linked.vehicle.session
      ∧ ({ status1 with flags := 4 } : WireStatus).flags.getLsbD 2 = true
      ∧ (linked.setVehicle { linked.vehicle with watchdog := some 0 }).vehicle.watchdog = some 0
      ∧ linked.vehicle.watchdog ≠ some 0 := by decide

/-- A card with a departure of 0 enters DUE with the outcome by the gap, and one with 65535 plans no run. One with a
departure of 29 enters AT_RISK, and one with 65535 lowers A with the claim and closes the lender's gate. -/
theorem meets_CardReplacesTheStoredCard :
    let full := linked.setAccount { linked.account with enow := some 2150 }
    let c := fun n => ({ departure := n, eroute := 1850, conditioningPresent := 0, pcond := 0, tcond := 0 } : WireCard)
    ((after (.cardReceived (c 29)) linked).tracker.readiness = .atRisk ∧ linked.tracker.readiness ≠ .atRisk
      ∧ (lender 2251).tracker.readiness.linked = true
      ∧ (after (.cardReceived (c 180)) (lender 2251)).account.gate = .isOpen
      ∧ (after (.cardReceived (c 60)) (lender 2251)).account.gate = .inWindow
      ∧ (after (.cardReceived (c 65535)) (lender 2251)).account.gate = .notTopped
      ∧ (linked.setAccount Account.reset).account.enow = none) ∧
    linked.store.working = some post ∧ linked.vehicle.loopResult ≠ .running ∧ linked.tracker.readiness.linked = true
      ∧ full.account.enow.map (fun e => 1850 + post.margin - e) = some 0
      ∧ linked.account.enow.map (fun e => 1850 + post.margin - e) = some (729 + 1) := by decide +kernel

theorem meets_DamagedBackFrameIsCounted :
    linked.vehicle.loopResult ≠ .running ∧ ([0x21, 0] : List Byte).length < 3
      ∧ ([0x20] : List Byte) ++ bytesOfWord (crc16 [0x20]) = 0x20 :: [] ++ bytesOfWord (crc16 [0x20])
      ∧ (0x20 : Byte) ≠ 0x21 ∧ (0x20 : Byte) ≠ 0x22 ∧ (0x20 : Byte) ≠ 0x23 := by decide

/-- The last minute, with an outcome fixed and not, a minute whose end opens the conditioning window at 15, one that
enters AT_RISK at 29, and one that closes the lender's gate at 60. -/
theorem meets_MinuteStepsTheCountdown :
    let minute := fun (s : State) n => after .minuteTimerExpiry
      (s.setTracker { s.tracker with countdown := some n, minuteTimer := some 0 })
    let due := linked.setTracker { linked.tracker with readiness := .due, outcome := some .met }
    ((minute linked 30).tracker.readiness = .atRisk ∧ (minute linked 31).tracker.readiness = .charging
      ∧ linked.tracker.card.map RunCard.departure = some 95 ∧ (minute (lender 2251) 62).account.gate = .isOpen
      ∧ (minute (lender 2251) 61).account.gate = .inWindow
      ∧ due.tracker.readiness = .due ∧ due.tracker.outcome ≠ none ∧ linked.tracker.outcome = none) ∧
    let c : RunCard := { departure := 25, eroute := 1850, conditioning := some { pcond := 90, tcond := 15 } }
    let s := fun n => linked.setTracker { linked.tracker with card := some c, countdown := some n, minuteTimer := some 0 }
    linked.tracker.minuteTimer ≠ some 0 ∧ (s 1).tracker.minuteTimer = some 0 ∧ (s 1).tracker.readiness.linked = true ∧ (s 1).store.working = some post
      ∧ (s 1).tracker.card = some c ∧ c.departure ≤ 1440 ∧ (s 1).tracker.countdown = some (0 + 1)
      ∧ (s 1).tracker.readiness ≠ .due ∧ (s 16).tracker.countdown = some (15 + 1)
      ∧ c.conditioning = some { pcond := 90, tcond := 15 } ∧ (s 1440).tracker.countdown = some (1439 + 1) := by
  decide +kernel

theorem meets_LoopTestRequestsAreAnswered :
    let ready := (listening post).setVehicle { VehicleLine.reset with proximity := .closed }
    looping.vehicle.loopResult = .running ∧ ready.vehicle.loopResult ≠ .running ∧ ready.tracker.readiness = .vacant
      ∧ ready.vehicle.pilot = .none ∧ ready.vehicle.proximity = .closed ∧ linked.vehicle.loopResult ≠ .running
      ∧ linked.tracker.readiness ≠ .vacant := by decide

/-- Frames 254 and 255 in flight, the window open and at its end, and a frame not yet sent. -/
theorem meets_LoopTestOutcomesAreCounted :
    let next := (loopAt 254 5000).setVehicle { (loopAt 254 5000).vehicle with loopWindow := none }
    looping.vehicle.loopResult = .running ∧ looping.vehicle.loopIndex = 255 ∧ looping.vehicle.loopWindow = some 5000
      ∧ (loopAt 254 0).vehicle.loopIndex = 254 ∧ (loopAt 254 0).vehicle.loopWindow = some 0
      ∧ (loopAt 255 0).vehicle.loopWindow = some 0 ∧ next.vehicle.loopWindow = none
      ∧ next.vehicle.loopResult = .running ∧ next.vehicle.loopIndex = 254 := by decide

/-- AT_RISK by step 4 of 2.9, an open gate at a gap of 0, the slack of its step 1 and the slacks at S3 and S2, and a gap
still pending. -/
theorem meets_UrgencyAndClaimLaws :
    let c : RunCard := { departure := 25, eroute := 2100, conditioning := some { pcond := 90, tcond := 15 } }
    let d := fun n => derivedOf post c n (some 1820) 1500 1500 3500
    readinessOf c 25 (derivedOf post c 25 (some 1820) 1500 1312 3500) = .atRisk
      ∧ readinessOf c 15 (derivedOf post c 15 (some 2039) 1500 1312 3500) = .conditioning
      ∧ (derivedOf post c 25 (some 2400) 1500 1312 3500).egap = some 0
      ∧ (derivedOf post c 25 (some 2400) 1500 1312 3500).windowOpen = false
      ∧ (derivedOf post c 25 none 0 1312 0).egap = none ∧ (d 25).egap = some (579 + 1)
      ∧ (d 53).slack = some 29 ∧ (d 54).slack = some 30 ∧ (d 143).slack = some 119 ∧ (d 144).slack = some 120
      ∧ readinessOf c 54 (d 54) = .charging ∧ post.s3 = 30 ∧ post.s2 = 120
      ∧ readinessOf { c with departure := 65535 } 65535 (d 65535) = .unplanned := by decide +kernel

/-- The account of 3.8 with residues one below a transfer, and the largest measured powers. -/
theorem meets_IntegrationKeepsEveryUnit :
    let a : Account := { Account.reset with deltaResidue := -35999, inResidue := 35999, outResidue := 35999
                                            delta := -32766, energyIn := 65534, energyOut := 65534 }
    (-32768 : Int) ≤ -32768 ∧ (32767 : Int) ≤ 32767 ∧ -36000 < a.deltaResidue ∧ a.deltaResidue < 36000
      ∧ a.inResidue < 36000 ∧ a.outResidue < 36000 ∧ -32767 < a.delta ∧ a.delta < 32767 ∧ a.energyIn < 65535
      ∧ a.energyOut < 65535 := by decide

/-- The countdown at the protect window 60 and one above, and Enow at the lending limit 2250 and one above. -/
theorem meets_LendableUpdateFollowsTheTable :
    let near := (lender 2251).setTracker { (lender 2251).tracker with countdown := some 60 }
    linked.tracker.readiness ≠ .topped ∧ (lender 2251).tracker.readiness = .topped
      ∧ (lender 2251).store.working = some post ∧ (lender 2251).tracker.card.isSome = true
      ∧ (lender 2251).tracker.derived.map Derived.efloor = some 2150 ∧ (lender 2251).tracker.countdown = some 180
      ∧ near.tracker.countdown = some 60 ∧ 60 ≤ post.protectWindow ∧ post.protectWindow < 180
      ∧ (2250 : Int) - 2150 - post.lendguard ≤ 0 ∧ 0 < (2251 : Int) - 2150 - post.lendguard := by decide

/-- With an entry heard and with none, as a post and as a meter. -/
theorem meets_ListenPeriodEndsInRunning :
    let heard := (listened post).setPeers { entries := table, alone := false }
    (listening post).link.listenTimer ≠ some 0
      ∧ (listened post).store.working = some post ∧ (listened post).link.station = .listening
      ∧ (listened post).link.listenTimer = some 0 ∧ (listened post).peers.entries = [] ∧ post.role = .post
      ∧ heard.peers.entries ≠ [] ∧ (listened meter).store.working = some meter ∧ meter.role = .meter
      ∧ (listened meter).link.listenTimer = some 0 := by decide

/-- The working copy of post 3 is in range. -/
theorem post_inRange : post.InRange := by constructor <;> decide

theorem meets_SequenceGeneratorKeepsReloadsNear :
    (0x0303 : Word) ≠ 0 ∧ 1 ≤ 1 ∧ 32 ≤ 32 ∧ post.InRange := ⟨by decide, by decide, by decide, post_inRange⟩

theorem meets_AnnounceIsBuiltFromCurrentValues :
    linked.link.announceTimer ≠ some 0 ∧ (listening post).link.station ≠ .running
      ∧ (announcing linked).store.working = some post ∧ linked.link.station = .running
      ∧ (announcing linked).link.announceTimer = some 0 ∧ post.role = .post
      ∧ (announcing (running meter)).store.working = some meter ∧ meter.role = .meter
      ∧ (announcing (running meter)).link.station = .running
      ∧ (announcing (running meter)).link.announceTimer = some 0 := by decide

/-- A SHED in hand with so many attempts, on a meter. -/
def shedding (attempts : Nat) (sent : Option OwnFrame) (behind : Option WireShed) : State :=
  (running meter).setLink
    { (running meter).link with
      shedHand := some { frame := { station := 21, fraction := 68 }, attempts := attempts }, transmitting := sent
      shedBehind := behind }

/-- A first attempt at 39 and 40 µs, a second of station 21 at 2139 and 2140 µs; a sensed time above, at and below the
one counted. -/
theorem meets_ReadyFrameIsTransmitted :
    let idle := fun n => (inHand 1).setLink { (inHand 1).link with idleTime := n }
    (sending 1).link.transmitting ≠ none ∧ (listening post).link.station ≠ .running
      ∧ (shedding 0 none none).link.transmitting = none ∧ (shedding 0 none none).link.station = .running
      ∧ (shedding 0 none none).link.shedHand = some { frame := { station := 21, fraction := 68 }, attempts := 0 }
      ∧ 40 + (shedding 1 none none).stationNumber * 100 = 2140 ∧ 39 < 40 ∧ 2139 < 2140
      ∧ (inHand 0).link.transmitting = none ∧ (inHand 0).link.shedHand = none
      ∧ (inHand 0).link.announceHand = some { frame := announce3, attempts := 0 }
      ∧ (idle 339).link.idleTime ≤ 340 ∧ (idle 340).link.idleTime ≤ 340 ∧ ¬ (idle 341).link.idleTime ≤ 340 := by decide

theorem meets_CollidedAnnounceIsKeptOrDropped :
    (sending 3).store.working = some post ∧ (sending 3).link.transmitting = some .announce
      ∧ (sending 3).link.announceHand = some { frame := announce3, attempts := 3 }
      ∧ (sending 4).link.announceHand = some { frame := announce3, attempts := 4 } := by decide

theorem meets_ShedTransmissionsEnd :
    let f : WireShed := { station := 21, fraction := 25 }
    (shedding 4 (some .shed) none).store.working.isSome = true
      ∧ (shedding 4 (some .shed) none).link.transmitting = some .shed
      ∧ (shedding 4 (some .shed) none).link.shedHand = some { frame := { station := 21, fraction := 68 }, attempts := 4 }
      ∧ (shedding 4 (some .shed) none).link.shedBehind = none
      ∧ (shedding 3 (some .shed) none).link.shedHand = some { frame := { station := 21, fraction := 68 }, attempts := 3 }
      ∧ (shedding 3 (some .shed) (some f)).link.shedBehind = some f := by decide

/-- The allocation of 6.16, 247 ms after the last, with tenure OFF, with TENURE 0 and with tenure ON to its last ms and
beyond; the table of 5.5 has five posts and a meter, and is heard by a meter too. -/
theorem meets_CompletedAnnounceAllocates :
    let heard := fun s : State => (s.setComposer { s.composer with draw := 400 }).setPeers allocating.peers
    let held := fun left => allocating.setShare
      { allocating.share with tenure := true, held := 1238, allowance := 1238, tenureLeft := left }
    allocating.store.working = some post ∧ post.role = .post ∧ allocating.link.station = .running
      ∧ (allocating.clock - allocating.share.lastAllocation.getD 0) / 1000 = 247
      ∧ allocating.link.transmitting = some .announce ∧ allocating.link.sequence = some 0x0303
      ∧ allocating.peers.alone = false ∧ allocating.share.tenure = false ∧ 0 < post.tenure
      ∧ allocating.share.allowance < 1238 ∧ allocating.share.held = 0
      ∧ (held 247).share.tenure = true ∧ (247 : Int) - 247 ≤ 0 ∧ 0 < (248 : Int) - 247
      ∧ (table.filter (fun p => p.role == .post)).map Peer.station = [7, 9, 12, 15, 18]
      ∧ allocating.ownContribution.claim = 1500 ∧ (heard (running meter)).ownContribution.draw = 0
      ∧ totalOfferUp (heard (running meter)).contributions = 500
      ∧ table.find? (fun p => p.role == .meter) = table[5]?
      ∧ 0 < min (held 248).share.held 1238 := by decide

/-- Alone with the island of 6.16's working copy, in overdraw (FCAP 500) and not, and a meter. -/
theorem meets_AloneAllocationIsTheIsland :
    let m := (running meter).setLink { (running meter).link with transmitting := some .announce }
    (sending 1).store.working = some post ∧ (sending 1).link.station = .running
      ∧ (sending 1).link.transmitting = some .announce ∧ post.role = .post ∧ (sending 1).peers.alone = true
      ∧ (sending 1).peers.entries = [] ∧ (0 : Int) ≤ (post.fcap : Int) - post.site - 160
      ∧ ({ post with fcap := 500 } : WorkingCopy).role = .post ∧ (500 : Int) - post.site - 10 < 0
      ∧ m.store.working = some meter ∧ m.link.transmitting = some .announce ∧ meter.role = .meter := by decide

/-- The allocation of 6.16 in MEASURING, in DISABLED and in MAINS_LOST. -/
theorem meets_AllocationDividesTheCommitments :
    let without := fun state => allocating.setReserve
      { allocating.reserve with state := state, upShare := 104, downShare := 232, shortUp := true, response := -126 }
    ((without .disabled).store.working = some post ∧ (without .disabled).link.station = .running
      ∧ (without .disabled).link.transmitting = some .announce ∧ (without .disabled).reserve.state = .disabled
      ∧ (without .mainsLost).reserve.state = .mainsLost ∧ (without .mainsLost).reserve.shortUp = true) ∧
    allocating.store.working = some post ∧ post.role = .post ∧ allocating.link.station = .running
      ∧ allocating.link.transmitting = some .announce ∧ allocating.reserve.state = .measuring := by decide

/-- The receiver in its three states, hearing and not, deaf for less and for as long as a SHED needs; a bad CRC, an
unknown kind, and station numbers and fractions beyond their bounds. -/
theorem meets_ReceptionIsChecked :
    let s := fun receiver => linked.setLink { linked.link with receiver := receiver }
    let sent := fun receiver => (sending 1).setLink { (sending 1).link with receiver := receiver }
    let f := shedFrame { station := 21, fraction := 68 }
    linked.link.hears false = true ∧ (s (.deaf 0)).link.hears false = false ∧ (s (.deaf 0)).link.hears true = true
      ∧ (sent .ending).link.hears true = true ∧ (sent .ending).link.hears false = false
      ∧ (sending 1).link.hears true = false ∧ (sending 1).link.transmitting ≠ none
      ∧ linked.link.transmitting = none ∧ linked.link.receiveBuffer = [] ∧ f.length = 6
      ∧ (s (.deaf 367)).link.receptionWait true f.length = 1 ∧ (s (.deaf 368)).link.receptionWait true f.length = 0
      ∧ ([0x02, 0] : List Byte).length < 3
      ∧ ([0x03] : List Byte) ++ bytesOfWord (crc16 [0x03]) = 0x03 :: [] ++ bytesOfWord (crc16 [0x03])
      ∧ ((0x03 : Byte) ≠ 1 ∧ (0x03 : Byte) ≠ 2)
      ∧ 32 < ({ announce3 with station := 33 } : WireAnnounce).station.toNat
      ∧ 1024 < ({ station := 21, fraction := 1025 } : WireShed).fraction.toNat := by decide +kernel

theorem meets_AnnounceIsStored :
    let s := linked.setPeers { entries := table, alone := false }
    s.link.hears false = true ∧ State.reset.link.hears true = true
      ∧ ({ announce3 with station := 33 } : WireAnnounce).station.toNat = 33
      ∧ 1 ≤ announce3.station.toNat ∧ ({ announce3 with station := 32 } : WireAnnounce).station.toNat ≤ 32
      ∧ announce3.role = 1 ∧ State.reset.link.station = .loading ∧ s.link.station = .running
      ∧ s.stationNumber ≠ announce3.station.toNat ∧ s.peers.entries.Pairwise (fun p q => p.station < q.station) := by decide

theorem meets_OwnNumberIsAClash :
    let f : WireAnnounce := { announce3 with station := 3 }
    let g : WireShed := { station := 3, fraction := 1024 }
    linked.link.hears true = true
      ∧ linked.store.working = some post ∧ 1 ≤ post.station ∧ post.station ≤ 32
      ∧ f.station.toNat = post.station ∧ f.role = 1 ∧ g.station.toNat = post.station ∧ g.fraction.toNat ≤ 1024
      ∧ linked.link.station = .running ∧ (inState .clash post).link.station = .clash := by decide

/-- The SHED of 6.16 in RUNNING, a whole cut (f 1024) that takes the held amount to 0, the listen period, a state that
discards it, and a malformed one. -/
theorem meets_ShedCutsTheAllowance :
    let f : WireShed := { station := 21, fraction := 1024 }
    let s := linked.setShare { linked.share with allowance := 1429, held := 1238, tenure := true }
    s.link.hears true = true ∧ State.reset.link.hears true = true
      ∧ s.store.working = some post ∧ 1 ≤ f.station.toNat ∧ f.station.toNat ≤ 32
      ∧ f.station.toNat ≠ post.station
      ∧ 1 ≤ f.fraction.toNat ∧ f.fraction.toNat ≤ 1024 ∧ s.link.station = .running ∧ post.role = .post
      ∧ min s.share.held (1429 * (1024 - 1024) / 1024) = 0 ∧ 0 < min s.share.held (1429 * (1024 - 68) / 1024)
      ∧ (listening post).link.station = .listening ∧ (running meter).store.working = some meter
      ∧ State.reset.link.station = .loading
      ∧ (inState .clash post).link.station = .clash ∧ 1024 < ({ f with fraction := 1025 } : WireShed).fraction.toNat := by decide

/-- An entry at T_sil and one µs short of it, alone in the table and with another; the ANNOUNCE that R88 takes first. -/
theorem meets_RemovalAndShedHoldEndAtTheirTimes :
    let p := { entry 7 3 1800 1200 1750 50 1750 0 with age := 1000000 }
    let two := linked.setPeers { entries := [p, entry 9 2 1500 1500 1480 20 1480 0], alone := false }
    let sharing := (heardAt 1000000).setReserve
      { Reserve.reset with state := .measuring, offerUp := 90, offerDown := 1000, upShare := 104, downShare := 400 }
    let lone := (running meter).setPeers { entries := [p], alone := false }
    (sharing.link.station = .running ∧ min sharing.reserve.offerUp (post.upcommit / post.isldiv) < sharing.reserve.upShare
      ∧ min sharing.reserve.offerDown (post.dncommit / post.isldiv) < sharing.reserve.downShare
      ∧ lone.store.working = some meter ∧ meter.role = .meter ∧ lone.link.station = .running
      ∧ lone.peers.entries.find? (fun q => q.station == p.station) = some p) ∧
    (heardAt 1000000).link.hears true = true
      ∧ (heardAt 1000000).store.working = some post ∧ (heardAt 1000000).link.station = .running
      ∧ (heardAt 1000000).peers.entries.find? (fun q => q.station == p.station) = some p
      ∧ post.ksil * (post.tann * 10) * 1000 = 1000000 ∧ 999999 < 1000000
      ∧ (heardAt 999999).peers.entries.find? (fun q => q.station == 7) = some { p with age := 999999 }
      ∧ (heardAt 1000000).peers.entries.filter (fun q => q.station ≠ p.station) = []
      ∧ two.peers.entries.filter (fun q => q.station ≠ p.station) ≠ []
      ∧ 1 ≤ announce3.station.toNat ∧ announce3.station.toNat ≤ 32
      ∧ announce3.station.toNat ≠ post.station ∧ announce3.role = 1 ∧ linked.share.shedTimer ≠ some 0
      ∧ (linked.setShare { linked.share with shedHold := true, shedTimer := some 0 }).share.shedTimer = some 0 := by decide

/-- The contributions of 5.5: each held within its claim; a budget of 7700 covers them all, and one of 1200 leaves
nothing below tier 7. Of 6190, the tiers 7 to 5 leave 2890 for tier 2, whose demand of 3500 does not fit. -/
theorem meets_TiersShareTheBudget :
    (((tierOrder.filter fun above => decide (2 < above)).map fun tier => tierDemand tier allocating.contributions).sum = 3300
      ∧ 6190 - 3300 = 2890 ∧ 2890 < tierDemand 2 allocating.contributions ∧ 1500 * 2890 / 3500 = 1238) ∧
    (∀ c ∈ allocating.contributions, c.held ≤ c.claim) ∧ (allocating.contributions.map Contribution.claim).sum ≤ 7700
      ∧ (tierOrder.filter fun tier => decide (2 * min 2 3 + 1 < tier)) = [7, 6] := by decide +kernel

theorem meets_DischargesAndReserveSharesAddUp : [1240, 5160].sum = 6400 ∧ 0 < 1200 ∧ 0 < 6400 := by decide

theorem meets_EdgesGatherAMeasurement :
    let d := (running meter).setReserve
      { Reserve.reset with state := .disabled, measurement := some { start := 1000, edges := 4, periodSum := 80000 } }
    State.reset.link.station = .loading ∧ linked.store.working = some post ∧ linked.link.station = .running
      ∧ linked.reserve.measurement = none ∧ d.store.working = some meter
      ∧ d.reserve.measurement = some { start := 1000, edges := 4, periodSum := 80000 } ∧ 3 + 1 < 5 ∧ 4 + 1 = 5
      ∧ d.reserve.state = .disabled ∧ 0 < 101250 - 1000 ∧ d.clock < 101250 ∧ (d.elapse 101250).clock = max d.clock 101250
      ∧ (d.elapse 101250).clock = max (d.elapse 101250).clock 101249 := by decide

/-- Measurement 1 of 7.10, and the plausible bounds of 50 Hz. -/
theorem meets_PlausibleMeasurementsDriveTheResponse :
    let s := measuring [-4, -131, -118]
    s.store.working = some post ∧ post.InRange ∧ s.link.station = .running ∧ s.reserve.state = .measuring
      ∧ s.reserve.measurement = some { start := 1000, edges := 4, periodSum := 80000 } ∧ 4 + 1 = 5
      ∧ 0 < 101250 - 1000 ∧ (2 * 5 * 1000000000 + 100250) / (2 * 100250) = 49875
      ∧ 50 * 1000 ≤ 49875 + 5000 ∧ 49875 ≤ 50 * 1000 + 5000
      ∧ (s.reserve.history ++ [-125]).drop (s.reserve.history.length - 2) = [-131, -118, -125] := by
  refine ⟨?_, post_inRange, ?_, ?_, ?_, ?_, ?_, ?_, ?_, ?_, ?_⟩ <;> decide

/-- An edge timeout, measurement 2 of 7.10 and one whose period sum is 0; the ninth and the tenth in a row, and the
recovery. -/
theorem meets_ImplausibleMeasurementsLoseTheMains :
    let s := fun (n : Nat) (state : ReserveState) =>
      (measuring []).setReserve { (measuring []).reserve with implausibleCount := n, state := state }
    (s 8 .measuring).store.working = some post ∧ (s 8 .measuring).link.station = .running
      ∧ (s 8 .measuring).reserve.edgeTimeout = some 0 ∧ linked.reserve.edgeTimeout ≠ some 0 ∧ 8 + 1 < 10 ∧ 10 ≤ 9 + 1
      ∧ (s 8 .measuring).reserve.measurement = some { start := 1000, edges := 4, periodSum := 80000 }
      ∧ 81000 - 1000 = 80000 ∧ max (s 8 .measuring).clock 1000 - 1000 = 0
      ∧ (2 * 5 * 1000000000 + 80000) / (2 * 80000) = 62500 ∧ 50 * 1000 + 5000 < 62500
      ∧ (s 9 .mainsLost).reserve.state = .mainsLost ∧ (s 9 .disabled).reserve.state = .disabled := by decide

theorem meets_OffersFollowTheTable :
    linked.isPost = true ∧ linked.link.station = .running ∧ linked.reserve.state = .starting
      ∧ linked.accepting = true ∧ linked.account.enow = some 1420 ∧ (1420 : Nat) < status1.ecap.toNat := by decide

/-- Each reported state, the change of Pderated at 70 degrees, and a FAULT; state code 4 is discarded. With and without
a session; the change of Pderated that enters AT_RISK at a countdown of 30; and a hand-over that closes the lender's
gate. -/
theorem meets_ReportIsTaken :
    let late := linked.setTracker { linked.tracker with countdown := some 31 }
    let hot := fun state => ({ power := 1000, state := state, temperature := 70 } : WireReport)
    let lends := (lender 2251).setAccount { (lender 2251).account with deltaResidue := -35000 }
    ((after (.reportReceived (hot 2)) late).tracker.readiness = .atRisk ∧ late.tracker.readiness = .charging
      ∧ (after (.reportReceived (hot 3)) late).service.pendingCauses = 3
      ∧ (after (.reportReceived (hot 3)) linked).service.pendingCauses = 2
      ∧ (running post).vehicle.sessionOpen = false ∧ (running post).tracker.readiness.linked = false
      ∧ linked.tracker.countdown = some 95 ∧ lends.vehicle.sessionOpen = true ∧ lends.tracker.readiness = .topped) ∧
    let r : WireReport := { power := 1000, state := 2, temperature := 70 }
    let waking := linked.setComposer { linked.composer with mode := .wake, wakeTimer := some 0 }
    linked.store.working = some post ∧ post.role = .post ∧ linked.link.station = .running ∧ r.state = 2
      ∧ ((70 - 40) / 5 : Int) = 6 ∧ post.prated * post.derate.getD 6 0 / 256 = 1312 ∧ linked.composer.pderated ≠ 1312
      ∧ linked.composer.mode = .run ∧ waking.composer.mode = .wake ∧ linked.vehicle.sessionOpen = true
      ∧ linked.tracker.readiness.linked = true ∧ linked.tracker.card.isSome = true
      ∧ ({ r with state := 4 } : WireReport).state.toNat > 3 := by decide +kernel

/-- The trip level 8400 is not above itself and 8401 is; with and without a positive draw heard; LOADING and
UNCONFIGURED. -/
theorem meets_FeederSampleDetectsOverload :
    let s := (running meter).setShare { Share.reset with overloadCount := 4 }
    let heard := s.setPeers { entries := table, alone := false }
    s.store.working = some meter ∧ meter.role = .meter ∧ s.link.station = .running
      ∧ ¬(meter.fcap * (1000 + meter.trip) < 8400 * 1000) ∧ meter.fcap * (1000 + meter.trip) < 8401 * 1000
      ∧ meter.ntrip ≤ s.share.overloadCount + 1 ∧ positiveDraw s.contributions = 0
      ∧ 0 < positiveDraw heard.contributions ∧ (shedding 1 (some .shed) none).link.transmitting = some .shed
      ∧ heard.link.transmitting ≠ some .shed ∧ State.reset.link.station = .loading
      ∧ (inState .unconfigured meter).link.station = .unconfigured ∧ (3 : Byte).toNat ≤ 3 := by decide +kernel

/-- 8.11, period 13: the clamps 0 and 1235, target 1235, residue 5. -/
theorem meets_DitherKeepsEveryUnit :
    0 < 10 ∧ (0 : Int) ≤ 0 ∧ (0 : Int) ≤ 1235 ∧ (0 : Int) ≤ 5 ∧ (5 : Int) < 10 := by decide

/-- A post with a converter that answers, one in a session and in LINKING with a FAULT, one that lends with a FAULT (the
clamp of that period by assumption 42), one in VACANT and in HALTED whose converter is silent, in FAULT or both, a
meter, LOADING and UNCONFIGURED, and the bounds of a DEMAND's value. -/
theorem meets_ControlPeriodComposesTheDemand :
    let vacant := (listening post).setComposer { Composer.reset with silentCount := 255, converter := some .fault }
    let halted := after .stageSilent (linked.setComposer { linked.composer with silentCount := 5 })
    let lends := after .lendableUpdate (lender 2251)
    let fault := lends.setComposer { lends.composer with converter := some .fault }
    let drawnLends := lends.setShare { lends.share with allowance := 0, discharge := 100 }
    let drawn := fault.setShare drawnLends.share
    (fault.tracker.readiness = .topped ∧ fault.composer.silentCount < 4 ∧ fault.account.offer = 600
      ∧ (after .controlPeriod fault).account.offer = 0
      ∧ (after .controlPeriod fault).composer.lowerClamp = 0
      ∧ (after .controlPeriod fault).composer.demand = 0
      ∧ (after .controlPeriod lends).composer.lowerClamp = -600
      ∧ (after .controlPeriod drawn).composer.target = 0 ∧ (after .controlPeriod drawnLends).composer.target = -100) ∧
    (-32768 ≤ (-32768 : Int) ∧ (32767 : Int) ≤ 32767 ∧ (running meter).isMeter = true) ∧
    (State.reset.link.station = .loading ∧ (after .loadComplete State.reset).link.station = .unconfigured) ∧
    (vacant.store.working = some post ∧ vacant.link.station = .listening ∧ vacant.tracker.readiness = .vacant
      ∧ ¬vacant.composer.silentCount < 255 ∧ halted.store.working = some post ∧ halted.link.station = .running
      ∧ halted.tracker.readiness = .halted ∧ halted.composer.silentCount < 255) ∧
    linked.store.working = some post ∧ post.role = .post ∧ linked.link.station = .running
      ∧ linked.composer.silentCount < 4 ∧ linked.composer.converter ≠ some .fault
      ∧ (linked.setComposer { linked.composer with converter := some .fault }).composer.silentCount < 4
      ∧ linkingUp.tracker.readiness = .linking ∧ linkingUp.composer.silentCount < 4 := by decide +kernel

/-- The silent count at its bounds 4, 5 and 255, in RUN with the idle time one period short of its end and two, in
STANDBY, and in LINKING; a FAULT reported, and both timers at their bounds. -/
theorem meets_StageFaultsHaltTheSession :
    let silent := fun mode idle => linked.setComposer
      { linked.composer with silentCount := 4, mode := mode, idleTimer := idle }
    ((silent .run 59900).composer.mode = .run ∧ post.idle * 1000 ≤ 59900 + 100 ∧ ¬post.idle * 1000 ≤ 59800 + 100
      ∧ (silent .standby 0).composer.mode ≠ .run ∧ linkingUp.tracker.readiness = .linking
      ∧ (after .controlPeriod (silent .run 59900)).composer.mode = .standby
      ∧ (after .controlPeriod (silent .run 59800)).composer.mode = .run
      ∧ (after .controlPeriod (silent .run 59900)).vehicle.waiting = [.stop 7 (.halt .stageSilent)]) ∧
    let s := fun n => linked.setComposer { linked.composer with silentCount := n }
    let f := linked.setComposer { linked.composer with converter := some .fault, silentCount := 3 }
    let waking := linked.setComposer { linked.composer with mode := .wake, wakeTimer := some 10000000 }
    let idle := linked.setComposer { linked.composer with idleTimer := 60000 }
    State.reset.link.station = .loading ∧ (running meter).isMeter = true ∧
    linked.store.working = some post ∧ post.role = .post ∧ linked.link.station = .running
      ∧ 4 ≤ (s 4).composer.silentCount ∧ (s 4).composer.silentCount < 5 ∧ (s 255).composer.silentCount ≤ 255
      ∧ 5 ≤ (s 5).composer.silentCount
      ∧ linked.tracker.readiness.linked = true ∧ f.composer.converter = some .fault ∧ f.composer.silentCount < 4
      ∧ waking.composer.wakeTimer = some 10000000 ∧ linked.composer.wakeTimer ≠ some 10000000 ∧ idle.composer.mode = .run
      ∧ post.idle * 1000 ≤ idle.composer.idleTimer ∧ linked.composer.idleTimer < post.idle * 1000 := by decide +kernel

/-- Item codes and indices at their bounds. -/
theorem meets_ItemsAreAnswered :
    (0 : Byte).toNat = 0 ∧ 13 ≤ (13 : Byte).toNat ∧ (12 : Byte).toNat ≤ 12 ∧ (1 : Byte) ≠ 0 ∧ 15 < (16 : Byte).toNat
      ∧ (15 : Byte).toNat ≤ 15 ∧ linked.peers.entries.length ≤ (0 : Byte).toNat
      ∧ allocating.peers.entries[(5 : Byte).toNat]?.isSome = true ∧ (1 : Byte).toNat = 1 ∧ (2 : Byte).toNat = 2
      ∧ (3 : Byte).toNat = 3 ∧ (4 : Byte).toNat = 4 ∧ (5 : Byte).toNat = 5 ∧ (6 : Byte).toNat = 6 ∧ (7 : Byte).toNat = 7
      ∧ (8 : Byte).toNat = 8 ∧ (9 : Byte).toNat = 9 ∧ (10 : Byte).toNat = 10 ∧ (11 : Byte).toNat = 11
      ∧ (linked.peers.entries.find? (fun p => p.role == .meter)) = none := by decide

/-- Writes that reach 256 and 257, one that spans the last protected page and one just above it. -/
theorem meets_ShadowWritesAreChecked :
    (240 : Byte).toNat + 16 ≤ 256 ∧ 256 < (241 : Byte).toNat + 16 ∧ 16 < 17
      ∧ linked.link.station ≠ .loading ∧ linked.store.writebackRunning = false ∧ Mem.wf linked.store.shadow = true
      ∧ (31 ≤ 31 ∧ 31 < 31 + 2 ∧ 31 / 16 < linked.store.working.elim 0 WorkingCopy.protect)
      ∧ (∀ a, 32 ≤ a → a < 34 → linked.store.working.elim 0 WorkingCopy.protect ≤ a / 16)
      ∧ State.reset.link.station = .loading := by
  refine ⟨by decide, by decide, by decide, by decide, by decide, by decide, by decide, fun a h _ => ?_, by decide⟩
  show 2 ≤ a / 16
  omega

theorem meets_WritebackIsAnswered :
    let free := listening { post with protect := 16 }
    linked.tracker.readiness ≠ .vacant ∧ (listening post).tracker.readiness = .vacant
      ∧ (listening post).link.station ≠ .loading ∧ (listening post).store.writebackRunning = false
      ∧ (listening post).vehicle.loopResult ≠ .running ∧ (listening post).protectCount ≠ 16
      ∧ free.protectCount = 16 ∧ Mem.wf (listening post).store.shadow = true
      ∧ (listening meter).isMeter = true := by decide

/-- The shadow is a sound image whose CRC the restart computes again, and a blank one. -/
theorem meets_RestartRunsTheShadow :
    linked.link.station ≠ .loading ∧ linked.store.writebackRunning = false ∧ Mem.wf linked.store.shadow = true
      ∧ Mem.wf image = true ∧ structuralError image = none ∧ structuralError [] = some .signature
      ∧ State.reset.link.station = .loading := by
  refine ⟨?_, ?_, ?_, ?_, image_sound, ?_, ?_⟩ <;> decide

/-- A frame for each clause: too short, a code above 8, and each of the eight requests with bytes after its CRC. -/
theorem meets_AttentionAndTransfers :
    (State.reset.service.response = none)
      ∧ (respond 4 .ok [1, 2] State.reset).service.response = some { status := .ok, data := [1, 2] }
      ∧ (Status.ok, (0 : Byte)) ∈
          [(Status.ok, (0 : Byte)), (.busy, 1), (.refused, 2), (.protectedPage, 3), (.rangeError, 4)]
      ∧ 6 ≤ ([1, 2] : List Byte).length + 4 ∧ ([7, 0, 0] : List Byte).length < 4
      ∧ ([9, 0, 0, 0] : List Byte) = 9 :: 0 :: [0, 0] ∧ 8 < (9 : Byte).toNat
      ∧ ([12, 0] : List Byte).length ≤ 255 ∧ ([] : List Byte).length ≤ 255
      ∧ ([1, 2, 12, 0] ++ bytesOfWord (crc16 [1, 2, 12, 0]) ++ [9, 9] : List Byte).length = 8 := by decide

/-- Fields at the bounds of the formats, and stage frames that are discarded: too short, a bad CRC, kind 31 hex, and a
payload of three bytes. -/
theorem meets_FramesReadBack :
    (([0x32, 0] : List Byte).length < 3
      ∧ ([0x32, 0, 0, 2, 20, 0, 0] : List Byte).drop (7 - 2) ≠ bytesOfWord (crc16 [0x32, 0, 0, 2, 20])
      ∧ ([0x31, 0, 0, 2, 20] : List Byte) ++ bytesOfWord (crc16 [0x31, 0, 0, 2, 20])
          = 0x31 :: [0, 0, 2, 20] ++ bytesOfWord (crc16 (0x31 :: [0, 0, 2, 20]))
      ∧ (0x31 : Byte) ≠ 0x32 ∧ ([0, 0, 2] : List Byte).length ≠ 4) ∧
    1 ≤ announce3.station.toNat ∧ announce3.station.toNat ≤ 32 ∧ announce3.role = 1
      ∧ 1 ≤ ({ station := 32, fraction := 1024 } : WireShed).fraction.toNat
      ∧ ({ station := 32, fraction := 1024 } : WireShed).fraction.toNat ≤ 1024
      ∧ (List.replicate 254 (0 : Byte)).length ≤ 254 ∧ linked.link.receiveBuffer = []
      ∧ reportOf [0x32, 0, 0] = none := by decide +kernel

/-- Commands that do what the clauses speak of. -/
theorem meets_OnlyTheNamedEventsChangeThese :
    let fourth := allocating.setLink
      { allocating.link with announceHand := some { frame := announce3, attempts := 4 } }
    allocating.share.allowance < (after .transmissionComplete allocating).share.allowance
      ∧ allocating.link.transmitting = some .announce
      ∧ fourth.share.allowance < (after .collision fourth).share.allowance
      ∧ exec .transmissionComplete allocating = .next (after .transmissionComplete allocating)
      ∧ (linked.setService { linked.service with pendingCauses := 1 }).service.pendingCauses
          &&& ~~~(after .attnRead (linked.setService { linked.service with pendingCauses := 1 })).service.pendingCauses
          ≠ 0 := by
  refine ⟨by decide +kernel, by decide +kernel, by decide +kernel, rfl, by decide⟩

/-- The linked session of 2.9 is sound, and so is the state after its idle step. -/
theorem linked_sound : linked.Sound := by
  constructor
  · constructor
    · decide
    · intro w h
      have : w = post := (Option.some.inj h).symm
      rw [this]; exact post_inRange
  · constructor <;> decide
  · constructor <;> decide
  · constructor <;> first | decide | (constructor <;> decide)
  · constructor <;> decide
  · constructor <;> decide
  · constructor <;> decide
  · constructor <;> decide
  · constructor <;> decide

theorem meets_StepKeepsSessionsSound : linked.Sound ∧ step linked = .next linked.tick := ⟨linked_sound, rfl⟩

theorem meets_StepKeepsSharingSound : linked.Sound ∧ step linked = .next linked.tick := ⟨linked_sound, rfl⟩

end Sys2Proof.Machine.Tests
end

/-! PROOFS. WRITE_SHADOW and WRITEBACK (9.4, 9.5): the status each is given, the state each leaves, and the two
statements about them. -/

namespace Sys2Proof.Machine

/-! ## Frames of the two ways a request changes the part -/

theorem respond_unchangedExcept (n : Nat) (status : Status) (data : List Byte) (s : State) :
    unchangedExcept [.service] s (respond n status data s) := by
  apply unchangedExcept_intro <;> simp

theorem setStore_unchangedExcept (x : Store) (s : State) : unchangedExcept [.store] s (s.setStore x) := by
  apply unchangedExcept_intro <;> simp

/-- A request that changes the store and is then answered touches nothing else. -/
theorem respond_setStore_unchangedExcept (n : Nat) (status : Status) (data : List Byte) (x : Store) (s : State) :
    unchangedExcept [.store, .service] s (respond n status data (s.setStore x)) :=
  unchangedExcept_trans (unchangedExcept_mono (setStore_unchangedExcept x s) (by simp))
    (unchangedExcept_mono (respond_unchangedExcept n status data _) (by simp))

/-! ## WRITE_SHADOW (R172) -/

theorem writeShadowStatus_rangeError {offset count : Nat} (s : State)
    (h : count = 0 ∨ 16 < count ∨ 256 < offset + count) : writeShadowStatus offset count s = .rangeError := if_pos h

theorem writeShadowStatus_busy {offset count : Nat} {s : State}
    (hrange : ¬(count = 0 ∨ 16 < count ∨ 256 < offset + count))
    (h : s.link.station = .loading ∨ s.store.writebackRunning = true) :
    writeShadowStatus offset count s = .busy := by
  rw [writeShadowStatus, if_neg hrange, if_pos h]

/-- Past the checks of the range and of a busy store, the lowest byte addressed decides: it lies in a protected page if
any byte addressed does. -/
theorem writeShadowStatus_free {offset count : Nat} {s : State}
    (hrange : ¬(count = 0 ∨ 16 < count ∨ 256 < offset + count))
    (hbusy : ¬(s.link.station = .loading ∨ s.store.writebackRunning = true)) :
    writeShadowStatus offset count s = if offset < 16 * s.protectCount then .protectedPage else .ok := by
  rw [writeShadowStatus, if_neg hrange, if_neg hbusy]

theorem takeWriteShadow_refused {offset : Byte} {data : List Byte} {s : State} {status : Status}
    (h : writeShadowStatus offset.toNat data.length s = status) (hok : status ≠ .ok) :
    takeWriteShadow offset data s = respond (5 + data.length) status [] s := by
  subst h
  exact if_neg hok

theorem takeWriteShadow_ok {offset : Byte} {data : List Byte} {s : State}
    (h : writeShadowStatus offset.toNat data.length s = .ok) :
    takeWriteShadow offset data s =
      respond (5 + data.length) .ok []
        (s.setStore { s.store with shadow := writeBytes s.store.shadow offset.toNat data }) := if_pos h

/-- The shadow bytes item reads a page of the shadow as it stands (10.10). -/
theorem takeReadItem_shadowPage {page : Byte} (h : page.toNat ≤ 15) (s : State) :
    takeReadItem 11 page s = respond 6 .ok (pageBytes s.store.shadow page.toNat) s := by
  have hdata : itemData (11 : Byte).toNat page.toNat s = some (pageBytes s.store.shadow page.toNat) := by
    simp [itemData, h]
  rw [takeReadItem, hdata]

/-- Settles O52: the status by the cases of R172, then the refused or the accepted form of the request. -/
theorem shadowWritesAreChecked : Obligations.ShadowWritesAreChecked := by
  intro s offset data reach answer hreach hanswer
  subst hreach
  have refused : ∀ status, status ≠ .ok → writeShadowStatus offset.toNat data.length s = status →
      (takeWriteShadow offset data s).service = answer status
        ∧ unchangedExcept [.service] s (takeWriteShadow offset data s) := by
    intro status hok h
    rw [takeWriteShadow_refused h hok, hanswer]
    exact ⟨respond_service .., respond_unchangedExcept _ _ _ _⟩
  refine ⟨takeWriteShadow offset data s, rfl, fun hrange => ?_, fun hne hlen hend => ?_⟩
  · exact refused _ (by decide) (writeShadowStatus_rangeError s (by simpa using hrange))
  have hpos : 0 < data.length := List.length_pos_iff.mpr hne
  have hrange : ¬(data.length = 0 ∨ 16 < data.length ∨ 256 < offset.toNat + data.length) := by omega
  refine ⟨fun hbusy => refused _ (by decide) (writeShadowStatus_busy hrange hbusy), fun hload hrun => ?_⟩
  have hstatus := writeShadowStatus_free (s := s) hrange (by simp [hload, hrun])
  refine ⟨fun ⟨a, hlow, _, hpage⟩ => ?_, fun hopen => ?_⟩
  · have hprotected : offset.toNat < 16 * s.protectCount := by
      change a / 16 < s.protectCount at hpage
      omega
    exact refused _ (by decide) (by rw [hstatus, if_pos hprotected])
  · have hfree : ¬offset.toNat < 16 * s.protectCount := by
      have hpage : s.protectCount ≤ offset.toNat / 16 := hopen _ le_rfl (by omega)
      omega
    rw [takeWriteShadow_ok (by rw [hstatus, if_neg hfree]), hanswer]
    refine ⟨respond_service .., by simp, fun hwf a => ?_, fun page hpage => ?_,
      respond_setStore_unchangedExcept _ _ _ _ _⟩
    · simpa using readByte_writeBytes s.store.shadow offset.toNat data a hwf
    · refine ⟨_, congrArg Host.Outcome.next (takeReadItem_shadowPage hpage _), ?_⟩
      simp [pageBytes, readBytes]

/-! ## WRITEBACK (R173) -/

/-- The lines of R173, the four that answer BUSY taken together. -/
theorem writebackStatus_eq (s : State) :
    writebackStatus s =
      if s.link.station = .loading ∨ s.store.writebackRunning = true ∨ s.tracker.readiness ≠ .vacant
        ∨ s.vehicle.loopResult = .running then .busy
      else if s.protectCount = 16 then .protectedPage else .ok := by
  by_cases hload : s.link.station = .loading
  · simp [writebackStatus, hload]
  by_cases hrun : s.store.writebackRunning = true
  · simp [writebackStatus, hrun]
  by_cases hvacant : s.tracker.readiness = .vacant
  · simp [writebackStatus, State.loopRunning, hload, hrun, hvacant]
  · simp [writebackStatus, hvacant]

theorem takeWriteback_refused {s : State} {status : Status} (h : writebackStatus s = status) (hok : status ≠ .ok) :
    takeWriteback s = respond 4 status [] s := by
  subst h
  exact if_neg hok

theorem takeWriteback_ok {s : State} (h : writebackStatus s = .ok) :
    takeWriteback s = respond 4 .ok [] (startWriteback s) := if_pos h

/-! ## Readiness away from a post -/

theorem isPost_of_isMeter {s : State} (h : s.isMeter = true) : s.isPost = false := by
  have hrole : s.role = some .meter := by simpa [State.isMeter] using h
  simp [State.isPost, hrole]

/-- An UNCONFIGURED station has no working copy, so it is no post (R67). -/
theorem State.Configured.isPost_of_unconfigured {s : State} (hc : s.Configured)
    (h : s.link.station = .unconfigured) : s.isPost = false := by
  have hworking : s.store.working = none := by simpa [h, Station.active] using hc.exists_
  simp [State.isPost, State.role, hworking]

theorem State.SessionSound.vacant_of_not_post {s : State} (hs : s.SessionSound) (h : s.isPost = false) :
    s.tracker.readiness = .vacant := by
  by_contra hne
  simpa [h] using hs.post hne

/-- Settles O53: the status by the lines of R173, then the refused or the accepted form of the request; the readiness of
a station that is no post by the invariants of sessions. -/
theorem writebackIsAnswered : Obligations.WritebackIsAnswered := by
  intro s protect busy answer hprotect hbusy hanswer
  replace hprotect : protect = s.protectCount := hprotect
  have hstatus : writebackStatus s =
      if busy = true then .busy else if protect = 16 then .protectedPage else .ok := by
    simp [writebackStatus_eq, hbusy, hprotect, or_assoc]
  have refused : ∀ status, status ≠ .ok → writebackStatus s = status →
      (takeWriteback s).service = answer status ∧ unchangedExcept [.service] s (takeWriteback s) := by
    intro status hok h
    rw [takeWriteback_refused h hok, hanswer]
    exact ⟨respond_service .., respond_unchangedExcept _ _ _ _⟩
  refine ⟨⟨takeWriteback s, rfl, fun hb => ?_, fun hb h16 => ?_, fun hb h16 => ?_⟩, fun hc hs h => ?_⟩
  · exact refused _ (by decide) (by simp [hstatus, hb])
  · exact refused _ (by decide) (by simp [hstatus, hb, h16])
  · rw [takeWriteback_ok (by simp [hstatus, hb, h16]), hanswer, startWriteback]
    refine ⟨respond_service .., by simp [hprotect], fun hwf => ?_, respond_setStore_unchangedExcept _ _ _ _ _⟩
    simpa using withImageCrc_effect hwf
  · exact hs.vacant_of_not_post (h.elim isPost_of_isMeter hc.isPost_of_unconfigured)

end Sys2Proof.Machine


/-! PROOFS. What each invariant of Safety.lean reads of the state: an invariant holds in any state that agrees with a
sound one there. The equalities asked for are those that the frame lemmas give `simp`. -/

namespace Sys2Proof.Machine

theorem State.Configured.of_same {s t : State} (h : s.Configured)
    (working : t.store.working = s.store.working := by simp)
    (station : t.link.station = s.link.station := by simp) : t.Configured := by
  constructor <;> simp only [working, station]
  exacts [h.exists_, h.range]

theorem State.MemoryCanonical.of_same {s t : State} (h : s.MemoryCanonical)
    (memory : t.store.memory = s.store.memory := by simp)
    (shadow : t.store.shadow = s.store.shadow := by simp) : t.MemoryCanonical := by
  constructor <;> simp only [memory, shadow]
  exacts [h.memory, h.shadow, h.image]

theorem isPost_of_same {s t : State} (working : t.store.working = s.store.working) : t.isPost = s.isPost := by
  simp [State.isPost, State.role, working]

theorem isMeter_of_same {s t : State} (working : t.store.working = s.store.working) : t.isMeter = s.isMeter := by
  simp [State.isMeter, State.role, working]

theorem responds_of_same {s t : State} (working : t.store.working = s.store.working)
    (station : t.link.station = s.link.station) : t.responds = s.responds := by
  simp [State.responds, isPost_of_same working, station]

/-- A running timer keeps running while it counts, so of a timer only whether it runs is asked. -/
theorem State.SessionSound.of_same {s t : State} (h : s.SessionSound)
    (sessionOpen : t.vehicle.sessionOpen = s.vehicle.sessionOpen := by simp)
    (pilot : t.vehicle.pilot = s.vehicle.pilot := by simp)
    (session : t.vehicle.session = s.vehicle.session := by simp)
    (watchdog : t.vehicle.watchdog.isSome = s.vehicle.watchdog.isSome := by simp)
    (helloTimer : t.vehicle.helloTimer.isSome = s.vehicle.helloTimer.isSome := by simp)
    (waiting : t.vehicle.waiting = s.vehicle.waiting := by simp)
    (readiness : t.tracker.readiness = s.tracker.readiness := by simp)
    (card : t.tracker.card = s.tracker.card := by simp)
    (countdown : t.tracker.countdown = s.tracker.countdown := by simp)
    (minuteTimer : t.tracker.minuteTimer.isSome = s.tracker.minuteTimer.isSome := by simp)
    (derived : t.tracker.derived = s.tracker.derived := by simp)
    (claim : t.tracker.claim = s.tracker.claim := by simp)
    (urgency : t.tracker.urgency = s.tracker.urgency := by simp)
    (haltReason : t.tracker.haltReason = s.tracker.haltReason := by simp)
    (working : t.store.working = s.store.working := by simp) : t.SessionSound := by
  have post := isPost_of_same working
  constructor <;> simp only [sessionOpen, pilot, session, watchdog, helloTimer, waiting, readiness, card, countdown,
    minuteTimer, derived, claim, urgency, haltReason, post]
  exacts [h.vacant, h.opened, h.connected, h.post, h.numbered, h.watchdog, h.helloTimer, h.card, h.countdown,
    h.minuteTimer, h.derived, h.asking, h.urgency, h.halted, h.permits, h.permitted]

theorem State.AccountSound.of_same {s t : State} (h : s.AccountSound)
    (account : t.account = s.account := by simp)
    (readiness : t.tracker.readiness = s.tracker.readiness := by simp)
    (countdown : t.tracker.countdown = s.tracker.countdown := by simp)
    (derived : t.tracker.derived = s.tracker.derived := by simp)
    (status : t.vehicle.lastStatus = s.vehicle.lastStatus := by simp)
    (working : t.store.working = s.store.working := by simp) : t.AccountSound := by
  have ecap : t.ecap = s.ecap := by simp [State.ecap, status]
  constructor
  case current => exact h.current.of_same account readiness countdown derived working status
  all_goals simp only [account, ecap, readiness, working]
  exacts [h.deltaResidue, h.delta, h.inResidue, h.energyIn, h.outResidue, h.energyOut, h.enow, h.lending, h.offer,
    h.gate, h.limit]

theorem State.LinkSound.of_same {s t : State} (h : s.LinkSound)
    (station : t.link.station = s.link.station := by simp)
    (listenTimer : t.link.listenTimer.isSome = s.link.listenTimer.isSome := by simp)
    (announceTimer : t.link.announceTimer.isSome = s.link.announceTimer.isSome := by simp)
    (sequence : t.link.sequence = s.link.sequence := by simp)
    (announceHand : t.link.announceHand = s.link.announceHand := by simp)
    (shedHand : t.link.shedHand = s.link.shedHand := by simp)
    (shedBehind : t.link.shedBehind = s.link.shedBehind := by simp)
    (transmitting : t.link.transmitting = s.link.transmitting := by simp)
    (idleTime : t.link.idleTime = s.link.idleTime := by simp)
    (receiver : t.link.receiver = s.link.receiver := by simp)
    (working : t.store.working = s.store.working := by simp) : t.LinkSound := by
  have meter := isMeter_of_same working
  have timer : t.link.announceTimer = none ↔ s.link.announceTimer = none := by
    rw [← Option.not_isSome_iff_eq_none, announceTimer, Option.not_isSome_iff_eq_none]
  constructor <;> simp only [station, listenTimer, announceTimer, sequence, announceHand, shedHand, shedBehind,
    transmitting, idleTime, receiver, meter, timer]
  exacts [h.listenTimer, h.quiet, h.announcing, h.sendingAnnounce, h.sendingShed, h.announceAttempts,
    h.shedAttempts, h.shedBehind, h.meter, h.driving, h.ending]

theorem State.TableSound.of_same {s t : State} (h : s.TableSound)
    (entries : t.peers.entries = s.peers.entries := by simp)
    (alone : t.peers.alone = s.peers.alone := by simp)
    (station : t.link.station = s.link.station := by simp)
    (working : t.store.working = s.store.working := by simp) : t.TableSound := by
  have number : t.stationNumber = s.stationNumber := by simp [State.stationNumber, working]
  have silent : t.silentTime = s.silentTime := by simp [State.silentTime, working]
  constructor <;> simp only [entries, alone, station, number, silent]
  exacts [h.rising, h.range, h.foreign, h.sanitised, h.age, h.idle, h.alone]

theorem State.ShareSound.of_same {s t : State} (h : s.ShareSound)
    (share : t.share = s.share := by simp)
    (claim : t.tracker.claim = s.tracker.claim := by simp)
    (alone : t.peers.alone = s.peers.alone := by simp)
    (station : t.link.station = s.link.station := by simp)
    (working : t.store.working = s.store.working := by simp) : t.ShareSound := by
  have post := isPost_of_same working
  have meter := isMeter_of_same working
  have responds := responds_of_same working station
  constructor <;> simp only [share, claim, alone, working, post, meter, responds]
  exacts [h.withinClaim, h.withinBudget, h.withinIsland, h.held, h.tenureOff, h.tenureOn, h.grounded, h.capped,
    h.shedTimer, h.meter, h.overload, h.post]

theorem State.ReserveSound.of_same {s t : State} (h : s.ReserveSound)
    (offerUp : t.reserve.offerUp = s.reserve.offerUp := by simp)
    (offerDown : t.reserve.offerDown = s.reserve.offerDown := by simp)
    (upShare : t.reserve.upShare = s.reserve.upShare := by simp)
    (downShare : t.reserve.downShare = s.reserve.downShare := by simp)
    (response : t.reserve.response = s.reserve.response := by simp)
    (shortUp : t.reserve.shortUp = s.reserve.shortUp := by simp)
    (shortDown : t.reserve.shortDown = s.reserve.shortDown := by simp)
    (state : t.reserve.state = s.reserve.state := by simp)
    (history : t.reserve.history = s.reserve.history := by simp)
    (active : t.reserve.active = s.reserve.active := by simp)
    (droop : t.reserve.droop = s.reserve.droop := by simp)
    (recoveryCount : t.reserve.recoveryCount = s.reserve.recoveryCount := by simp)
    (shedHold : t.share.shedHold = s.share.shedHold := by simp)
    (station : t.link.station = s.link.station := by simp)
    (working : t.store.working = s.store.working := by simp) : t.ReserveSound := by
  have responds := responds_of_same working station
  constructor <;> simp only [offerUp, offerDown, upShare, downShare, response, shortUp, shortDown, state, history,
    active, droop, recoveryCount, shedHold, station, responds]
  exacts [h.up, h.down, h.response, h.grounded, h.dead, h.starting, h.measuring, h.disabled, h.lost, h.droop,
    h.shed, h.idle]

theorem State.ComposerSound.of_same {s t : State} (h : s.ComposerSound)
    (upperClamp : t.composer.upperClamp = s.composer.upperClamp := by simp)
    (lowerClamp : t.composer.lowerClamp = s.composer.lowerClamp := by simp)
    (target : t.composer.target = s.composer.target := by simp)
    (output : t.composer.output = s.composer.output := by simp)
    (residue : t.composer.residue = s.composer.residue := by simp)
    (demand : t.composer.demand = s.composer.demand := by simp)
    (mode : t.composer.mode = s.composer.mode := by simp)
    (settle : t.composer.settle = s.composer.settle := by simp)
    (idleTimer : t.composer.idleTimer = s.composer.idleTimer := by simp)
    (wakeTimer : t.composer.wakeTimer = s.composer.wakeTimer := by simp)
    (timedOut : t.composer.timedOut = s.composer.timedOut := by simp)
    (silentCount : t.composer.silentCount = s.composer.silentCount := by simp)
    (ramped : t.composer.ramped = s.composer.ramped := by simp)
    (feederSample : t.composer.feederSample = s.composer.feederSample := by simp)
    (station : t.link.station.active = s.link.station.active := by simp)
    (working : t.store.working = s.store.working := by simp) : t.ComposerSound := by
  have post := isPost_of_same working
  have composes : t.composes = s.composes := by simp [State.composes, post, station]
  constructor <;> simp only [upperClamp, lowerClamp, target, output, residue, demand, mode, settle, idleTimer,
    wakeTimer, timedOut, silentCount, ramped, feederSample, working, post, composes]
  exacts [h.clamps, h.target, h.demand, h.residue, h.quantum, h.settle, h.run, h.wake, h.wakeTime, h.timedOut,
    h.silent, h.idle, h.sample]

theorem State.ComposerSound.of_composer {s t : State} (h : s.ComposerSound) (composer : t.composer = s.composer)
    (station : t.link.station.active = s.link.station.active := by simp)
    (working : t.store.working = s.store.working := by simp) : t.ComposerSound :=
  h.of_same (congrArg Composer.upperClamp composer) (congrArg Composer.lowerClamp composer)
    (congrArg Composer.target composer) (congrArg Composer.output composer) (congrArg Composer.residue composer)
    (congrArg Composer.demand composer) (congrArg Composer.mode composer) (congrArg Composer.settle composer)
    (congrArg Composer.idleTimer composer) (congrArg Composer.wakeTimer composer)
    (congrArg Composer.timedOut composer) (congrArg Composer.silentCount composer)
    (congrArg Composer.ramped composer) (congrArg Composer.feederSample composer) station working

/-- Every invariant but the composer's, which a control period breaks between two of its steps. The other invariants
read nothing of the composer. -/
structure State.SoundAround (s : State) : Prop where
  configured : s.Configured
  memory : s.MemoryCanonical
  session : s.SessionSound
  account : s.AccountSound
  link : s.LinkSound
  table : s.TableSound
  share : s.ShareSound
  reserve : s.ReserveSound

theorem State.Sound.around {s : State} (h : s.Sound) : s.SoundAround :=
  ⟨h.configured, h.memory, h.session, h.account, h.link, h.table, h.share, h.reserve⟩

theorem State.SoundAround.sound {s : State} (h : s.SoundAround) (composer : s.ComposerSound) : s.Sound :=
  ⟨h.configured, h.memory, h.session, h.account, h.link, h.table, h.share, h.reserve, composer⟩

/-- A state that differs in the composer, the service port, the timebase, the count of free values and the queue alone
is as sound as before around the composer. -/
theorem State.SoundAround.of_same {s t : State} (h : s.SoundAround)
    (vehicle : t.vehicle = s.vehicle := by simp) (tracker : t.tracker = s.tracker := by simp)
    (account : t.account = s.account := by simp) (link : t.link = s.link := by simp)
    (peers : t.peers = s.peers := by simp) (share : t.share = s.share := by simp)
    (reserve : t.reserve = s.reserve := by simp) (store : t.store = s.store := by simp) : t.SoundAround := by
  cases s
  cases t
  subst vehicle tracker account link peers share reserve store
  exact ⟨h.configured.of_same, h.memory.of_same, h.session.of_same, h.account.of_same, h.link.of_same,
    h.table.of_same, h.share.of_same, h.reserve.of_same⟩

theorem State.SoundAround.setComposer {s : State} (h : s.SoundAround) (c : Composer) :
    (s.setComposer c).SoundAround := h.of_same

/-- A state that differs in the service port, the timebase, the count of free values and the queue alone is as sound as
before. -/
theorem State.Sound.of_same {s t : State} (h : s.Sound)
    (vehicle : t.vehicle = s.vehicle := by simp) (tracker : t.tracker = s.tracker := by simp)
    (account : t.account = s.account := by simp) (link : t.link = s.link := by simp)
    (peers : t.peers = s.peers := by simp) (share : t.share = s.share := by simp)
    (reserve : t.reserve = s.reserve := by simp) (composer : t.composer = s.composer := by simp)
    (store : t.store = s.store := by simp) : t.Sound := by
  cases s
  cases t
  subst vehicle tracker account link peers share reserve composer store
  exact h.around.of_same.sound h.composer.of_same

end Sys2Proof.Machine


/-! PROOFS. The operations of a session keep every invariant: the account's own update, a handed claim, halts,
recomputes, link-ups, and the ends of sessions. -/

namespace Sys2Proof.Machine

/-! ## The account -/

/-- The ranges of the account's state, which its own update needs and keeps. -/
structure State.AccountInRange (s : State) : Prop where
  deltaResidue : -36000 < s.account.deltaResidue ∧ s.account.deltaResidue < 36000
  delta : -32767 ≤ s.account.delta ∧ s.account.delta ≤ 32767
  inResidue : s.account.inResidue < 36000
  energyIn : s.account.energyIn ≤ 65535
  outResidue : s.account.outResidue < 36000
  energyOut : s.account.energyOut ≤ 65535
  enow : ∀ e ∈ s.account.enow, e ≤ s.ecap

theorem State.AccountSound.inRange {s : State} (h : s.AccountSound) : s.AccountInRange :=
  ⟨h.deltaResidue, h.delta, h.inResidue, h.energyIn, h.outResidue, h.energyOut, h.enow⟩

theorem State.AccountInRange.of_same {s t : State} (h : s.AccountInRange)
    (account : t.account = s.account := by simp)
    (status : t.vehicle.lastStatus = s.vehicle.lastStatus := by simp) : t.AccountInRange := by
  have ecap : t.ecap = s.ecap := by simp [State.ecap, status]
  constructor <;> simp only [account, ecap]
  exacts [h.deltaResidue, h.delta, h.inResidue, h.energyIn, h.outResidue, h.energyOut, h.enow]

/-- L is above 0 exactly with the gate open (R57). -/
theorem lendingOf_isOpen (r : Readiness) (countdown efloor enow window guard : Nat) :
    (lendingOf r countdown efloor enow window guard).1 = .isOpen
      ↔ 0 < (lendingOf r countdown efloor enow window guard).2 := by
  unfold lendingOf
  repeat' split
  all_goals simp
  omega

theorem State.lending_isOpen (s : State) : s.lending.1 = .isOpen ↔ 0 < s.lending.2 := by
  unfold State.lending
  split
  · exact lendingOf_isOpen ..
  · simp

theorem State.lending_notTopped {s : State} (h : s.tracker.readiness ≠ .topped) : s.lending = (.notTopped, 0) := by
  unfold State.lending
  split
  · simp [lendingOf, h]
  · rfl

theorem State.offerFor_zero (s : State) : s.offerFor 0 = 0 := rfl

theorem State.offerFor_le (s : State) (l : Nat) : s.offerFor l ≤ s.store.working.elim 0 WorkingCopy.pdismax := by
  unfold State.offerFor
  split
  · exact Nat.min_le_right ..
  · exact Nat.zero_le _

/-- The account's own update brings gate, L and offer to their inputs, whatever they were (R58). -/
theorem updateLending_accountSound {s : State} (h : s.AccountInRange) : (updateLending s).AccountSound where
  deltaResidue := h.deltaResidue
  delta := h.delta
  inResidue := h.inResidue
  energyIn := h.energyIn
  outResidue := h.outResidue
  energyOut := h.energyOut
  enow := h.enow
  lending hr := by
    have hr : s.tracker.readiness ≠ .topped := hr
    simp [State.lending_notTopped hr, State.offerFor_zero]
  offer hl := by
    have hl : s.lending.2 = 0 := hl
    simp [hl, State.offerFor_zero]
  gate := s.lending_isOpen
  limit := s.offerFor_le _
  current := updateLending_lends s

theorem accountReset_accountSound {s : State} (h : s.account = Account.reset) (hr : s.tracker.readiness ≠ .topped) :
    s.AccountSound := by
  constructor
  case current => exact ⟨fun _ => by simp [h, Account.reset], fun _ _ _ _ _ _ _ _ hr' => absurd hr' hr,
    fun _ _ _ _ _ _ _ _ hr' => absurd hr' hr, fun _ _ _ _ _ _ _ _ hr' => absurd hr' hr⟩
  all_goals simp [h, Account.reset]

/-! ## The allowance -/

/-- A set allowance, field by field (R113). -/
theorem setAllowance_eq (a : Nat) (sh : Share) :
    setAllowance a sh = { sh with
      allowance := a, held := min sh.held a, tenure := sh.tenure && decide (min sh.held a ≠ 0)
      tenureLeft := if min sh.held a = 0 then 0 else sh.tenureLeft } := by
  unfold setAllowance
  split
  · next h => simp [endTenure, h]
  · next h => simp [h]

/-- The allowance of a sound share engine, lowered, stays sound whatever the claim above it has become (R109, R113). -/
theorem State.ShareSound.lowered {s t : State} {a : Nat} (h : s.ShareSound) (ha : a ≤ s.share.allowance)
    (claim : a ≤ t.tracker.claim) (share : t.share = setAllowance a s.share)
    (alone : t.peers.alone = s.peers.alone := by simp) (station : t.link.station = s.link.station := by simp)
    (working : t.store.working = s.store.working := by simp) : t.ShareSound := by
  have post := isPost_of_same working
  have meter := isMeter_of_same working
  have responds := responds_of_same working station
  rw [setAllowance_eq] at share
  constructor <;> simp only [share, alone, working, post, meter, responds]
  case withinClaim => exact claim
  case withinBudget => exact ha.trans h.withinBudget
  case withinIsland =>
    intro halone w hw
    have hisland := h.withinIsland halone w hw
    simp only [islandAllowance] at hisland ⊢
    omega
  case held => omega
  case tenureOff =>
    intro htenure
    rw [Bool.and_eq_false_imp] at htenure
    cases hon : s.share.tenure with
    | false => simp [h.tenureOff hon]
    | true =>
      have hend := htenure hon
      simp only [decide_eq_false_iff_not] at hend
      omega
  case tenureOn => intro htenure; simp at htenure; omega
  case grounded =>
    intro hr
    obtain ⟨h1, h2, h3, h4⟩ := h.grounded hr
    simp [h2, h3, h4]; omega
  case capped => exact fun hold => ha.trans (h.capped hold)
  exacts [h.shedTimer, h.meter, h.overload, h.post]

/-- A share engine whose allowance lies within the new claim stays as it is. -/
theorem State.ShareSound.withClaim {s t : State} (h : s.ShareSound) (claim : s.share.allowance ≤ t.tracker.claim)
    (share : t.share = s.share := by simp)
    (alone : t.peers.alone = s.peers.alone := by simp) (station : t.link.station = s.link.station := by simp)
    (working : t.store.working = s.store.working := by simp) : t.ShareSound := by
  have post := isPost_of_same working
  have meter := isMeter_of_same working
  have responds := responds_of_same working station
  constructor <;> simp only [share, alone, working, post, meter, responds]
  case withinClaim => exact claim
  case withinIsland =>
    intro halone w hw
    have hisland := h.withinIsland halone w hw
    simp only [islandAllowance] at hisland ⊢
    omega
  exacts [h.withinBudget, h.held, h.tenureOff, h.tenureOn, h.grounded, h.capped, h.shedTimer, h.meter, h.overload,
    h.post]

/-- A claim handed on keeps the share engine sound: the allowance follows it down (R114). -/
theorem State.ShareSound.handed {s t : State} (h : s.ShareSound)
    (share : t.share =
      if t.tracker.claim < s.share.allowance then setAllowance t.tracker.claim s.share else s.share)
    (alone : t.peers.alone = s.peers.alone := by simp) (station : t.link.station = s.link.station := by simp)
    (working : t.store.working = s.store.working := by simp) : t.ShareSound := by
  split at share
  · next hlt => exact h.lowered hlt.le le_rfl share alone station working
  · next hle => exact h.withClaim (by omega) share alone station working

theorem cutAllowance_shedHold (a b : Nat) (sh : Share) :
    (if a < b then setAllowance a sh else sh).shedHold = sh.shedHold := by
  split <;> simp [setAllowance_eq]

/-! ## Sessions -/

/-- An event of a session reaches the vehicle line, the tracker, the account and the allowance, and leaves the others'
invariants alone. -/
theorem State.SoundAround.of_session {s t : State} (h : s.SoundAround) (session : t.SessionSound)
    (account : t.AccountSound) (share : t.ShareSound) (link : t.link = s.link := by simp)
    (peers : t.peers = s.peers := by simp) (reserve : t.reserve = s.reserve := by simp)
    (store : t.store = s.store := by simp)
    (shedHold : t.share.shedHold = s.share.shedHold := by simp [cutAllowance_shedHold]) : t.SoundAround where
  configured := h.configured.of_same (by rw [store]) (by rw [link])
  memory := h.memory.of_same (by rw [store]) (by rw [store])
  session := session
  account := account
  link := by
    cases s
    cases t
    subst link store
    exact h.link.of_same
  table := by
    cases s
    cases t
    subst link store peers
    exact h.table.of_same
  share := share
  reserve := by
    cases s
    cases t
    subst link store reserve
    exact h.reserve.of_same (shedHold := shedHold)

theorem filter_isPermit_withoutPermit (l : List ForwardFrame) :
    (withoutPermit l).filter ForwardFrame.isPermit = [] := by
  simp [withoutPermit]

/-- A closed session has no PERMIT waiting (R6, R11). -/
theorem close_noPermit (reason : StopReason) (v : VehicleLine) :
    (v.close reason).waiting.filter ForwardFrame.isPermit = [] := by
  simp only [VehicleLine.close, List.filter_append, filter_isPermit_withoutPermit, List.nil_append]
  split <;> rfl

/-- A halt of a post with something at the connector keeps its session sound (R6, R42). -/
theorem halt_sessionSound {r : HaltReason} {s : State} (h : s.SessionSound) (hpilot : s.vehicle.pilot ≠ .none)
    (hpost : s.isPost = true) : (halt r s).SessionSound := by
  by_cases hr : s.tracker.readiness = .halted
  · rwa [halt_halted hr]
  obtain ⟨hv, ht, -⟩ := halt_effect (r := r) hr
  have post : (halt r s).isPost = true := by rw [isPost_of_same (s := s) (by simp)]; exact hpost
  constructor <;> simp only [hv, ht, post, close_noPermit]
  case numbered => exact h.numbered
  all_goals simp [Tracker.halt, VehicleLine.close, Readiness.linked, hpilot]

theorem halt_accountSound {r : HaltReason} {s : State} (h : s.AccountSound) : (halt r s).AccountSound := by
  unfold halt
  split
  · exact h
  · exact updateLending_accountSound (h.inRange.of_same (by simp) (by simp [VehicleLine.close]))

theorem halt_shareSound {r : HaltReason} {s : State} (h : s.ShareSound) : (halt r s).ShareSound := by
  by_cases hr : s.tracker.readiness = .halted
  · rwa [halt_halted hr]
  · obtain ⟨-, ht, -, hs, -⟩ := halt_effect (r := r) hr
    exact h.handed (by simp [hs, ht, Tracker.halt])

theorem halt_shedHold (r : HaltReason) (s : State) : (halt r s).share.shedHold = s.share.shedHold := by
  unfold halt
  split
  · rfl
  · simp [cutAllowance_shedHold]

theorem halt_soundAround {r : HaltReason} {s : State} (h : s.SoundAround) (hpilot : s.vehicle.pilot ≠ .none)
    (hpost : s.isPost = true) : (halt r s).SoundAround :=
  h.of_session (halt_sessionSound h.session hpilot hpost) (halt_accountSound h.account) (halt_shareSound h.share)
    (shedHold := halt_shedHold r s)

/-- A halt of a session, which LINKING and the linked states have (1.2). -/
theorem halt_soundAround_of_session {r : HaltReason} {s : State} (h : s.SoundAround)
    (hr : s.tracker.readiness ≠ .vacant) : (halt r s).SoundAround :=
  halt_soundAround h (h.session.connected hr) (h.session.post hr)

/-! ## Recomputes -/

/-- What a session brings to a recompute, and what the recompute's linked state needs of it (R30). -/
structure State.InSession (s : State) : Prop where
  opened : s.vehicle.sessionOpen = true
  connected : s.vehicle.pilot ≠ .none
  post : s.isPost = true
  numbered : s.vehicle.session ≠ 0
  watchdog : s.vehicle.watchdog.isSome = true
  helloTimer : s.vehicle.helloTimer = none
  card : s.tracker.card.isSome = true
  countdown : s.tracker.countdown.isSome = true
  permits : (s.vehicle.waiting.filter ForwardFrame.isPermit).length ≤ 1

theorem linked_ne_vacant {r : Readiness} (h : r.linked = true) : r ≠ .vacant := by
  rintro rfl
  exact absurd h (by decide)

theorem linked_ne_linking {r : Readiness} (h : r.linked = true) : r ≠ .linking := by
  rintro rfl
  exact absurd h (by decide)

theorem linked_ne_halted {r : Readiness} (h : r.linked = true) : r ≠ .halted := by
  rintro rfl
  exact absurd h (by decide)

theorem State.SessionSound.inSession {s : State} (h : s.SessionSound) (hl : s.tracker.readiness.linked = true) :
    s.InSession where
  opened := h.opened (.inr hl)
  connected := h.connected (linked_ne_vacant hl)
  post := h.post (linked_ne_vacant hl)
  numbered := h.numbered (h.opened (.inr hl))
  watchdog := h.watchdog.trans hl
  helloTimer := by
    by_contra hrun
    exact linked_ne_linking hl (h.helloTimer (Option.ne_none_iff_isSome.mp hrun))
  card := h.card hl
  countdown := h.countdown hl
  permits := h.permits

/-- A post has a working copy. -/
theorem working_of_isPost {s : State} (h : s.isPost = true) : ∃ w, s.store.working = some w ∧ w.role = .post := by
  simpa [State.isPost, State.role, Option.map_eq_some_iff] using h

/-- A recompute always gives a linked state (R37). -/
theorem readinessOf_linked (c : RunCard) (n : Nat) (d : Derived) : (readinessOf c n d).linked = true := by
  unfold readinessOf
  repeat' split
  all_goals rfl

theorem urgencyOf_le (w : WorkingCopy) (r : Readiness) (d : Derived) : urgencyOf w r d ≤ 3 := by
  unfold urgencyOf
  repeat' split
  all_goals omega

theorem recompute_linked {b : Bool} {s : State} (h : s.InSession) :
    (recompute b s).tracker.readiness.linked = true := by
  obtain ⟨w, hw, -⟩ := working_of_isPost h.post
  obtain ⟨c, hc⟩ := Option.isSome_iff_exists.mp h.card
  rw [(recompute_effect hw hc).1]
  exact readinessOf_linked ..

theorem recompute_sessionSound {b : Bool} {s : State} (h : s.InSession) : (recompute b s).SessionSound := by
  obtain ⟨w, hw, -⟩ := working_of_isPost h.post
  obtain ⟨c, hc⟩ := Option.isSome_iff_exists.mp h.card
  obtain ⟨ht, -⟩ := recompute_effect (b := b) hw hc
  have hlinked := recompute_linked (b := b) h
  have hv : (recompute b s).vehicle = s.vehicle := by simp
  have post : (recompute b s).isPost = true := by rw [isPost_of_same (s := s) (by simp)]; exact h.post
  constructor
  case card => rw [ht]; exact fun _ => h.card
  case countdown => rw [ht]; exact fun _ => h.countdown
  case derived => rw [hlinked, ht]; rfl
  case urgency => rw [ht]; exact urgencyOf_le ..
  case halted => exact fun hr => absurd hr (linked_ne_halted hlinked)
  case vacant => exact fun _ => linked_ne_vacant hlinked
  case numbered => rw [hv]; exact fun _ => h.numbered
  case permits => rw [hv]; exact h.permits
  all_goals simp [hlinked, post, h.opened, h.connected, h.watchdog, h.helloTimer]

theorem recompute_accountSound {b : Bool} {s : State} (h : s.InSession) (ha : s.AccountInRange) :
    (recompute b s).AccountSound := by
  obtain ⟨w, hw, -⟩ := working_of_isPost h.post
  obtain ⟨c, hc⟩ := Option.isSome_iff_exists.mp h.card
  simp only [recompute, hw, hc]
  exact updateLending_accountSound ha.of_same

theorem recompute_shareSound {b : Bool} {s : State} (h : s.InSession) (hs : s.ShareSound) :
    (recompute b s).ShareSound := by
  obtain ⟨w, hw, -⟩ := working_of_isPost h.post
  obtain ⟨c, hc⟩ := Option.isSome_iff_exists.mp h.card
  obtain ⟨ht, hsh, -⟩ := recompute_effect (b := b) hw hc
  exact hs.handed (by rw [hsh, ht])

theorem recompute_shedHold (b : Bool) (s : State) : (recompute b s).share.shedHold = s.share.shedHold := by
  unfold recompute
  split
  · simp [cutAllowance_shedHold]
  · rfl

/-- The tracker recomputes from whatever card, countdown and estimate it has been given. -/
theorem recompute_soundAround {b : Bool} {s t : State} (h : s.SoundAround) (hin : t.InSession)
    (ha : t.AccountInRange) (hs : t.ShareSound) (link : t.link = s.link := by simp)
    (peers : t.peers = s.peers := by simp) (reserve : t.reserve = s.reserve := by simp)
    (store : t.store = s.store := by simp)
    (shedHold : t.share.shedHold = s.share.shedHold := by simp) : (recompute b t).SoundAround :=
  h.of_session (recompute_sessionSound hin) (recompute_accountSound hin ha) (recompute_shareSound hin hs)
    (by simp [link]) (by simp [peers]) (by simp [reserve]) (by simp [store])
    ((recompute_shedHold b t).trans shedHold)

theorem recomputeIfLinked_soundAround {s : State} (h : s.SoundAround) : (recomputeIfLinked s).SoundAround := by
  unfold recomputeIfLinked
  split
  · next hl => exact recompute_soundAround h (h.session.inSession hl) h.account.inRange h.share
  · exact h

/-- A stored card in a linked state (R28). -/
theorem storeCard_soundAround {c : WireCard} {s : State} (h : s.SoundAround) (hl : s.tracker.readiness.linked = true) :
    (storeCard c s).SoundAround := by
  obtain ⟨h1, h2, h3, h4, h5, h6, h7, h8, h9⟩ := h.session.inSession hl
  exact recompute_soundAround h ⟨h1, h2, h3, h4, h5, h6, rfl, rfl, h9⟩ (h.account.inRange.of_same)
    (h.share.of_same (claim := rfl))

end Sys2Proof.Machine


/-! PROOFS. The vehicle line's commands keep every invariant: samples of the connector, the frames of a session, its
timers, and the loop test. -/

namespace Sys2Proof.Machine

/-! ## Blocks that no invariant reads -/

theorem raise_soundAround {c : Cause} {s : State} (h : s.SoundAround) : (raise c s).SoundAround := h.of_same

theorem raise_sound {c : Cause} {s : State} (h : s.Sound) : (raise c s).Sound := h.of_same

theorem respond_sound {n : Nat} {status : Status} {data : List Byte} {s : State} (h : s.Sound) :
    (respond n status data s).Sound := h.of_same

theorem clockZeros_sound {n : Nat} {s : State} (h : s.Sound) : (clockZeros n s).Sound := h.of_same

/-- The sensing histories, the counters, the loop test and the line last driven are read by no invariant. -/
theorem State.Sound.of_vehicle {s : State} {v : VehicleLine} (h : s.Sound)
    (sessionOpen : v.sessionOpen = s.vehicle.sessionOpen := by rfl) (pilot : v.pilot = s.vehicle.pilot := by rfl)
    (session : v.session = s.vehicle.session := by rfl) (watchdog : v.watchdog = s.vehicle.watchdog := by rfl)
    (helloTimer : v.helloTimer = s.vehicle.helloTimer := by rfl) (waiting : v.waiting = s.vehicle.waiting := by rfl)
    (status : v.lastStatus = s.vehicle.lastStatus := by rfl) : (s.setVehicle v).Sound :=
  (h.around.of_session
      (h.session.of_same sessionOpen pilot session (congrArg _ watchdog) (congrArg _ helloTimer) waiting)
      (h.account.of_same (status := status)) h.share.of_same).sound h.composer.of_same

/-! ## The loop test -/

theorem decideTestFrame_sound {pass : Bool} {s : State} (h : s.Sound) : (decideTestFrame pass s).Sound := by
  unfold decideTestFrame
  split
  · exact raise_sound h.of_vehicle
  · exact h.of_vehicle

theorem loopReceive_sound {frame : List Byte} {s : State} (h : s.Sound) : (loopReceive frame s).Sound := by
  unfold loopReceive
  split
  · exact decideTestFrame_sound h
  · exact h

theorem abortLoopTest_sound {s : State} (h : s.Sound) : (abortLoopTest s).Sound := raise_sound h.of_vehicle

theorem returnWindowExpired_sound {s : State} (h : s.Sound) : (returnWindowExpired s).Sound := by
  unfold returnWindowExpired
  split
  · exact decideTestFrame_sound h
  · exact h

/-! ## Link-ups and the ends of sessions -/

theorem nextSession_ne_zero (n : Byte) : nextSession n ≠ 0 := by
  unfold nextSession
  split
  · decide
  · next h => bv_omega

/-- A claim of 0 leaves no allowance. -/
theorem State.ShareSound.allowance_zero {s : State} (h : s.ShareSound) (hc : s.tracker.claim = 0) :
    s.share.allowance = 0 := by
  have := h.withinClaim
  omega

/-- A link-up start keeps every invariant (R7, R38, R61). -/
theorem checkLinkUp_soundAround {s : State} (h : s.SoundAround) : (checkLinkUp s).SoundAround := by
  cases hw : s.store.working with
  | none => simpa [checkLinkUp, hw] using h
  | some w =>
    obtain ⟨hdo, hskip⟩ := checkLinkUp_effect s w hw
    cases hcan : s.canLinkUp with
    | false => rwa [hskip hcan]
    | true =>
      obtain ⟨hv, ht, ha⟩ := hdo hcan
      have post : (checkLinkUp s).isPost = true := by
        rw [isPost_of_same (s := s) (by simp)]
        simp only [State.canLinkUp, Bool.and_eq_true] at hcan
        exact hcan.1.1.1
      have hvacant : s.tracker.readiness = .vacant := by
        simp only [State.canLinkUp, Bool.and_eq_true, beq_iff_eq] at hcan
        exact hcan.1.2
      have hpilot : s.vehicle.pilot ≠ .none := by
        intro hnone
        simp [State.canLinkUp, hnone] at hcan
      have hquiet : s.tracker.readiness.linked = false := by rw [hvacant]; rfl
      refine h.of_session ?_ (accountReset_accountSound ha (by simp [ht, Tracker.linkUp]))
        (h.share.withClaim (by simp [h.share.allowance_zero (h.session.asking hquiet).1]))
      have hpermits : (checkLinkUp s).vehicle.waiting.filter ForwardFrame.isPermit = [] := by
        rw [hv, VehicleLine.linkUp, List.filter_append, h.session.permitted hquiet]
        rfl
      have hwatchdog : s.vehicle.watchdog.isSome = false := h.session.watchdog.trans hquiet
      constructor
      case permits => simp [hpermits]
      case permitted => exact fun _ => hpermits
      case watchdog => rw [hv, ht]; exact hwatchdog
      case numbered => rw [hv]; exact fun _ => nextSession_ne_zero _
      all_goals simp [hv, ht, post, VehicleLine.linkUp, Tracker.linkUp, Tracker.reset, Readiness.linked, hpilot]

/-- A tracker that becomes VACANT with the session closed. -/
theorem vacant_sessionSound {s : State} (readiness : s.tracker.readiness = .vacant)
    (minuteTimer : s.tracker.minuteTimer = none) (derived : s.tracker.derived = none)
    (claim : s.tracker.claim = 0) (urgency : s.tracker.urgency = 0) (sessionOpen : s.vehicle.sessionOpen = false)
    (watchdog : s.vehicle.watchdog = none) (helloTimer : s.vehicle.helloTimer = none)
    (permits : s.vehicle.waiting.filter ForwardFrame.isPermit = []) : s.SessionSound := by
  constructor <;> simp [readiness, minuteTimer, derived, claim, urgency, sessionOpen, watchdog, helloTimer, permits,
    Readiness.linked]

theorem unplug_sessionSound (s : State) : (unplug s).SessionSound := by
  obtain ⟨hv, ht, -⟩ := unplug_effect s
  apply vacant_sessionSound <;> simp only [hv, ht]
  case permits => exact close_noPermit .unplugged s.vehicle
  all_goals rfl

/-- The end of a session keeps every invariant, whatever the pilot has become (R20, R44, R62). -/
theorem unplug_soundAround {s t : State} (h : s.SoundAround) (link : t.link = s.link := by simp)
    (peers : t.peers = s.peers := by simp) (share : t.share = s.share := by simp)
    (reserve : t.reserve = s.reserve := by simp) (store : t.store = s.store := by simp) : (unplug t).SoundAround := by
  obtain ⟨-, ht, ha, hs⟩ := unplug_effect t
  refine h.of_session (unplug_sessionSound t)
    (accountReset_accountSound ha (by simp [ht, Tracker.vacate, Tracker.reset]))
    (h.share.handed (by rw [hs, ht, share]; rfl) ?_ ?_ ?_) ?_ ?_ ?_ ?_ ?_
  all_goals simp [hs, share, link, peers, reserve, store, cutAllowance_shedHold]

/-- While nothing is lent an account is sound with the tracker in any state but TOPPED, whatever the working copy. -/
theorem State.AccountSound.notTopped {s t : State} (h : s.AccountSound) (hs : s.tracker.readiness ≠ .topped)
    (ht : t.tracker.readiness ≠ .topped) (account : t.account = s.account := by simp)
    (status : t.vehicle.lastStatus = s.vehicle.lastStatus := by simp) : t.AccountSound := by
  have ecap : t.ecap = s.ecap := by simp [State.ecap, status]
  have unlent := h.current.notTopped hs
  rw [← account] at unlent
  constructor
  case current =>
    exact ⟨fun _ => unlent, fun _ _ _ _ _ _ _ _ hr => absurd hr ht, fun _ _ _ _ _ _ _ _ hr => absurd hr ht,
      fun _ _ _ _ _ _ _ _ hr => absurd hr ht⟩
  case lending => exact fun _ => unlent.2
  case limit =>
    rw [unlent.2.2]
    exact Nat.zero_le _
  all_goals simp only [account, ecap]
  exacts [h.deltaResidue, h.delta, h.inResidue, h.energyIn, h.outResidue, h.energyOut, h.enow, h.offer, h.gate]

/-- With no session and no halt the tracker is VACANT. -/
theorem State.SessionSound.vacant_of_closed {s : State} (h : s.SessionSound) (hopen : s.vehicle.sessionOpen = false)
    (hr : s.tracker.readiness ≠ .halted) : s.tracker.readiness = .vacant := by
  have hopened := h.opened
  rw [hopen] at hopened
  cases hcase : s.tracker.readiness <;> simp_all [Readiness.linked]

/-- A confirmation of NONE at a sound part, whatever the sample has made of the confirmed classes (R20). -/
theorem confirmNone_soundAround {s t : State} (h : s.SoundAround)
    (sessionOpen : t.vehicle.sessionOpen = s.vehicle.sessionOpen)
    (watchdog : t.vehicle.watchdog = s.vehicle.watchdog) (helloTimer : t.vehicle.helloTimer = s.vehicle.helloTimer)
    (waiting : t.vehicle.waiting = s.vehicle.waiting) (status : t.vehicle.lastStatus = s.vehicle.lastStatus)
    (tracker : t.tracker = s.tracker := by simp) (account : t.account = s.account := by simp)
    (link : t.link = s.link := by simp) (peers : t.peers = s.peers := by simp) (share : t.share = s.share := by simp)
    (reserve : t.reserve = s.reserve := by simp) (store : t.store = s.store := by simp) :
    (confirmNone t).SoundAround := by
  unfold confirmNone
  split
  · exact unplug_soundAround h link peers share reserve store
  next hopen =>
  have hclosed : s.vehicle.sessionOpen = false := by rw [← sessionOpen]; simpa using hopen
  have quiet : s.tracker.readiness.linked = false := by
    by_contra hl
    simp [h.session.opened (.inr (by simpa using hl))] at hclosed
  have hwatchdog : t.vehicle.watchdog = none := by
    rw [watchdog, ← Option.not_isSome_iff_eq_none, h.session.watchdog, quiet]
    exact Bool.false_ne_true
  have hhello : t.vehicle.helloTimer = none := by
    rw [helloTimer, ← Option.not_isSome_iff_eq_none]
    exact fun hrun => absurd (h.session.opened (.inl (h.session.helloTimer hrun))) (by simp [hclosed])
  have hpermits : t.vehicle.waiting.filter ForwardFrame.isPermit = [] := by
    rw [waiting]
    exact h.session.permitted quiet
  have hclaim := h.session.asking quiet
  have htopped : s.tracker.readiness ≠ .topped := by
    intro hr
    simp [hr, Readiness.linked] at quiet
  split
  · refine h.of_session
      (vacant_sessionSound rfl rfl rfl rfl rfl (by simpa using hopen) hwatchdog hhello hpermits)
      (h.account.notTopped htopped (by simp [Tracker.vacate, Tracker.reset]) account status)
      (h.share.withClaim (by simp [h.share.allowance_zero hclaim.1]) share ?_ ?_ ?_) link peers reserve store
      (by simp [share])
    all_goals simp [peers, link, store]
  · next hr =>
    rw [tracker] at hr
    have hvacant := h.session.vacant_of_closed hclosed hr
    have hminute : s.tracker.minuteTimer = none := by
      rw [← Option.not_isSome_iff_eq_none]
      exact fun hrun => absurd (h.session.minuteTimer hrun) (by simp [quiet])
    have hderived : s.tracker.derived = none := by
      rw [← Option.not_isSome_iff_eq_none, h.session.derived, quiet]
      exact Bool.false_ne_true
    refine h.of_session (vacant_sessionSound ?_ ?_ ?_ ?_ ?_ (by simpa using hopen) hwatchdog hhello hpermits)
      (h.account.of_same account ?_ ?_ ?_ status ?_) (h.share.of_same share ?_ ?_ ?_ ?_) link peers reserve store
      (by simp [share])
    all_goals simp [tracker, hvacant, hminute, hderived, hclaim, peers, link, store]

/-! ## Samples of the connector -/

theorem sampleAbortsTest_soundAround {before : VehicleLine} {s : State} (h : s.SoundAround) :
    (sampleAbortsTest before s).SoundAround := by
  unfold sampleAbortsTest
  split
  · exact raise_soundAround (h.of_session h.session.of_same h.account.of_same h.share.of_same)
  · exact h

/-- An abort of the loop test leaves all of the vehicle line but the loop test. -/
theorem sampleAbortsTest_vehicle (before : VehicleLine) (s : State) :
    (sampleAbortsTest before s).vehicle.sessionOpen = s.vehicle.sessionOpen
      ∧ (sampleAbortsTest before s).vehicle.pilot = s.vehicle.pilot
      ∧ (sampleAbortsTest before s).vehicle.watchdog = s.vehicle.watchdog
      ∧ (sampleAbortsTest before s).vehicle.helloTimer = s.vehicle.helloTimer
      ∧ (sampleAbortsTest before s).vehicle.waiting = s.vehicle.waiting
      ∧ (sampleAbortsTest before s).vehicle.lastStatus = s.vehicle.lastStatus := by
  unfold sampleAbortsTest abortLoopTest
  split <;> simp

/-- Sampled classes keep a session sound, unless NONE has just been confirmed in it. -/
theorem sampled_soundAround {p : PilotClass} {x : Proximity} {e : Earth} {s : State} (h : s.SoundAround)
    (hpilot : s.vehicle.pilot ≠ .none → (s.vehicle.sampled p x e).pilot ≠ .none) :
    (s.setVehicle (s.vehicle.sampled p x e)).SoundAround := by
  refine h.of_session ?_ (h.account.of_same (status := rfl)) h.share.of_same
  obtain ⟨h1, h2, h3, h4, h5, h6, h7, h8, h9, h10, h11, h12, h13, h14, h15, h16⟩ := h.session
  exact ⟨h1, h2, fun hr => hpilot (h3 hr), h4, h5, h6, h7, h8, h9, h10, h11, h12, h13, h14, h15, h16⟩

theorem sampleUnplugs_soundAround {p : PilotClass} {x : Proximity} {e : Earth} {s : State} (h : s.SoundAround) :
    (sampleUnplugs s.vehicle
      (sampleAbortsTest s.vehicle (s.setVehicle (s.vehicle.sampled p x e)))).SoundAround := by
  obtain ⟨ho, hp, hw, ht, hq, hst⟩ :=
    sampleAbortsTest_vehicle s.vehicle (s.setVehicle (s.vehicle.sampled p x e))
  unfold sampleUnplugs
  split
  · exact confirmNone_soundAround h ho hw ht hq hst
  · next hnone =>
    refine sampleAbortsTest_soundAround (sampled_soundAround h fun hbefore hafter => hnone ⟨?_, hbefore⟩)
    rw [hp]
    exact hafter

/-- Every sensed fault has something at the connector (R16). -/
theorem connectorFault_pilot {v : VehicleLine} {r : HaltReason} (h : connectorFault v = some r) :
    v.pilot ≠ .none := by
  intro hnone
  simp [connectorFault, hnone] at h

theorem evaluateFaults_soundAround {s : State} (h : s.SoundAround) : (evaluateFaults s).SoundAround := by
  unfold evaluateFaults
  split
  · next hacts =>
    cases hfault : connectorFault s.vehicle with
    | none => exact h
    | some r => exact halt_soundAround h (connectorFault_pilot hfault) (Bool.and_eq_true_iff.mp hacts).1
  · exact h

theorem sampleRecompute_soundAround {changed : Bool} {s : State} (h : s.SoundAround) :
    (sampleRecompute changed s).SoundAround := by
  unfold sampleRecompute
  split
  · exact recomputeIfLinked_soundAround h
  · exact h

theorem connectorSampled_sound {p : PilotClass} {x : Proximity} {e : Earth} {s : State} (h : s.Sound) :
    (connectorSampled p x e s).Sound :=
  State.SoundAround.sound
    (sampleRecompute_soundAround
      (checkLinkUp_soundAround (evaluateFaults_soundAround (sampleUnplugs_soundAround h.around))))
    h.composer.of_same

/-! ## Forward frames -/

theorem forwardFrameSent_sound {s : State} (h : s.Sound) : (forwardFrameSent s).Sound := by
  unfold forwardFrameSent
  split
  · split
    · exact h.of_vehicle
    · exact h
  next f rest hwaiting =>
  refine (h.around.of_session ?_ h.account.of_same h.share.of_same).sound h.composer.of_same
  have hpermits := h.session.permits
  have hpermitted := h.session.permitted
  rw [hwaiting, List.filter_cons] at hpermits hpermitted
  obtain ⟨h1, h2, h3, h4, h5, h6, h7, h8, h9, h10, h11, h12, h13, h14, -, -⟩ := h.session
  refine ⟨h1, h2, h3, h4, h5, h6, fun hrun => ?_, h8, h9, h10, h11, h12, h13, h14, ?_, fun hr => ?_⟩
  · cases f with
    | hello =>
      by_cases hlink : s.tracker.readiness = .linking
      · exact hlink
      · exact h7 (by simpa [helloTimerAfter, hlink] using hrun)
    | permit => exact h7 hrun
    | stop => exact h7 hrun
  · refine le_trans ?_ hpermits
    split <;> simp
  · have hnone := hpermitted hr
    split at hnone
    · exact absurd hnone (List.cons_ne_nil _ _)
    · exact hnone

theorem helloUnanswered_sound {s : State} (h : s.Sound) (hr : s.tracker.readiness = .linking) :
    (helloUnanswered s).Sound := by
  unfold helloUnanswered
  split
  next w _ =>
    split
    · refine (h.around.of_session (t := s.setVehicle (s.vehicle.repeatHello w)) ?_ (h.account.of_same (status := rfl)) h.share.of_same).sound h.composer.of_same
      obtain ⟨h1, h2, h3, h4, h5, h6, -, h8, h9, h10, h11, h12, h13, h14, h15, h16⟩ := h.session
      refine ⟨h1, h2, h3, h4, h5, h6, fun hrun => absurd hrun Bool.false_ne_true, h8, h9, h10, h11, h12, h13, h14,
        ?_, fun hl => ?_⟩
      · simpa [VehicleLine.repeatHello, List.filter_append, ForwardFrame.isPermit] using h15
      · simpa [VehicleLine.repeatHello, ForwardFrame.isPermit] using h16 hl
    · exact (halt_soundAround_of_session h.around (by simp [hr])).sound h.composer.of_same
  · exact h

theorem helloReplyExpired_sound {s : State} (h : s.Sound) : (helloReplyExpired s).Sound := by
  unfold helloReplyExpired
  split
  · next hdue => exact helloUnanswered_sound h (by simpa using (Bool.and_eq_true_iff.mp hdue).2)
  · exact h

/-! ## Back frames -/

theorem claimHanded_setVehicle (s : State) (v : VehicleLine) :
    claimHanded (s.setVehicle v) = (claimHanded s).setVehicle v := by
  rw [claimHanded, claimHanded, apply_ite (fun t : State => t.setVehicle v)]
  rfl

theorem raiseAtRisk_setVehicle (before : Readiness) (s : State) (v : VehicleLine) :
    raiseAtRisk before (s.setVehicle v) = (raiseAtRisk before s).setVehicle v := by
  rw [raiseAtRisk, raiseAtRisk, apply_ite (fun t : State => t.setVehicle v)]
  rfl

/-- The watchdog is read by no recompute, so starting it before one or after it is the same. -/
theorem startWatchdog_recompute (b : Bool) (s : State) :
    startWatchdog (recompute b s) = recompute b (startWatchdog s) := by
  cases hw : s.store.working with
  | none => simp [recompute, startWatchdog, hw]
  | some w =>
    cases hc : s.tracker.card with
    | none => simp [recompute, startWatchdog, hw, hc]
    | some c =>
      have hrecomputed : (startWatchdog s).recomputed b w c = s.recomputed b w c := rfl
      have hstart : ∀ t : Tracker, (startWatchdog s).setTracker t = (s.setTracker t).setVehicle (startWatchdog s).vehicle :=
        fun _ => rfl
      simp only [recompute, startWatchdog_frame, hw, hc, hrecomputed, hstart, raiseAtRisk_setVehicle,
        claimHanded_setVehicle]
      simp [startWatchdog, updateLending, State.lending, State.offerFor, State.pvdis, State.watchdogTime]
      rfl

/-- An IDENT in LINKING leaves a linked state with the watchdog running (R9, R39). -/
theorem takeIdent_sound {id : VehicleId} {c : WireCard} {s : State} (h : s.Sound) : (takeIdent id c s).Sound := by
  unfold takeIdent
  split
  · next hr =>
    have hvacant : s.tracker.readiness ≠ .vacant := by simp [hr]
    have hopen := h.session.opened (.inl hr)
    unfold storeCard
    rw [startWatchdog_recompute]
    refine State.SoundAround.sound ?_ h.composer.of_same
    refine recompute_soundAround h.around ⟨hopen, h.session.connected hvacant, ?_, h.session.numbered hopen, rfl, rfl,
      rfl, rfl, h.session.permits⟩ (h.account.inRange.of_same (status := rfl)) (h.share.of_same (claim := rfl))
    rw [isPost_of_same (s := s) (by simp)]
    exact h.session.post hvacant
  · exact h

theorem estimate_le (t : WireStatus) (delta : Int) : estimate t delta ≤ t.ecap.toNat := by
  simp only [estimate, clampInt]
  omega

/-- An estimate made afresh lies within Ecap (R54). -/
theorem updateEstimate_enow {s : State} : ∀ e ∈ (updateEstimate s).account.enow, e ≤ (updateEstimate s).ecap := by
  cases hstatus : s.vehicle.lastStatus with
  | none => simp [hstatus]
  | some k => simpa [hstatus, State.ecap] using estimate_le k _

/-- The account reconciles on a STATUS that has just been stored (R54, R55). -/
theorem reconcile_inRange {s t : State} (h : s.AccountInRange) (account : t.account = s.account) :
    (updateEstimate (t.setAccount { t.account with delta := 0, deltaResidue := 0 })).AccountInRange := by
  constructor
  case enow => exact updateEstimate_enow
  all_goals simp [account]
  exacts [h.inResidue, h.energyIn, h.outResidue, h.energyOut]

/-- A stored STATUS leaves the session ready for its recompute. -/
theorem reconcile_inSession {k : WireStatus} {s : State} (h : s.SessionSound)
    (hl : s.tracker.readiness.linked = true) :
    (reconcile (startWatchdog (s.setVehicle { s.vehicle with lastStatus := some k }))).InSession := by
  obtain ⟨h1, h2, h3, h4, -, h6, h7, h8, h9⟩ := h.inSession hl
  exact ⟨h1, h2, h3, h4, rfl, h6, h7, h8, h9⟩

theorem acceptStatus_linked {k : WireStatus} {s : State} (h : s.SessionSound)
    (hl : s.tracker.readiness.linked = true) : (acceptStatus k s).tracker.readiness.linked = true :=
  recompute_linked (reconcile_inSession h hl)

theorem acceptStatus_soundAround {k : WireStatus} {s : State} (h : s.SoundAround)
    (hl : s.tracker.readiness.linked = true) : (acceptStatus k s).SoundAround := by
  have hreconciled := updateLending_accountSound
    (reconcile_inRange (t := startWatchdog (s.setVehicle { s.vehicle with lastStatus := some k }))
      h.account.inRange (by simp))
  exact recompute_soundAround h (reconcile_inSession h.session hl) hreconciled.inRange h.share.of_same

theorem takeStatus_sound {k : WireStatus} {s : State} (h : s.Sound) : (takeStatus k s).Sound := by
  refine State.SoundAround.sound ?_ h.composer.of_same
  unfold takeStatus
  split
  · next hl =>
    have haccepted := acceptStatus_soundAround (k := k) h.around hl
    split
    · split
      · exact halt_soundAround_of_session haccepted (linked_ne_vacant (acceptStatus_linked h.session hl))
      · exact haccepted
    · exact halt_soundAround_of_session h.around (linked_ne_vacant hl)
  · exact h.around

theorem takeCard_sound {c : WireCard} {s : State} (h : s.Sound) : (takeCard c s).Sound := by
  unfold takeCard
  split
  · next hl => exact (storeCard_soundAround h.around hl).sound h.composer.of_same
  · exact h

theorem takeBackFrame_sound {frame : List Byte} {s : State} (h : s.Sound) : (takeBackFrame frame s).Sound := by
  unfold takeBackFrame
  split
  · exact h.of_vehicle
  · exact h
  · exact takeIdent_sound h
  · exact takeStatus_sound h
  · exact takeCard_sound h
  · exact h

theorem receiveBack_sound {frame : List Byte} {ordinary : State → State} {s : State} (h : s.Sound)
    (hordinary : (ordinary s).Sound) : (receiveBack frame ordinary s).Sound := by
  unfold receiveBack
  split
  · exact loopReceive_sound h
  · exact hordinary

/-! ## The watchdog and the minute timer -/

theorem watchdogExpired_sound {s : State} (h : s.Sound) : (watchdogExpired s).Sound := by
  unfold watchdogExpired
  split
  · next hdue =>
    have hl : s.tracker.readiness.linked = true := by
      rw [← h.session.watchdog, (due_iff _).mp hdue]
      rfl
    exact (halt_soundAround_of_session h.around (linked_ne_vacant hl)).sound h.composer.of_same
  · exact h

theorem minuteExpired_sound {s : State} (h : s.Sound) : (minuteExpired s).Sound := by
  unfold minuteExpired
  split
  · next hdue =>
    have hl := (Bool.and_eq_true_iff.mp hdue).2
    obtain ⟨h1, h2, h3, h4, h5, h6, h7, h8, h9⟩ := h.session.inSession hl
    refine State.SoundAround.sound ?_ h.composer.of_same
    refine recompute_soundAround h.around ⟨h1, h2, h3, h4, h5, h6, h7, ?_, h9⟩ h.account.inRange.of_same
      (h.share.of_same (claim := rfl))
    simpa [Tracker.minute] using h8
  · exact h

end Sys2Proof.Machine


/-! PROOFS. The composer's commands keep every invariant: REPORTs, feeder samples, the control period, and the limits of
the stage. -/

namespace Sys2Proof.Machine

/-! ## Stage faults -/

theorem stageFault_soundAround {r : HaltReason} {s : State} (h : s.SoundAround) : (stageFault r s).SoundAround := by
  unfold stageFault
  split
  · next hr =>
    refine halt_soundAround_of_session h ?_
    rintro hvacant
    simp [hvacant, Readiness.linked] at hr
  · exact h

theorem evaluateSilence_soundAround {s : State} (h : s.SoundAround) : (evaluateSilence s).SoundAround := by
  unfold evaluateSilence
  split
  · exact stageFault_soundAround (h.setComposer _)
  · exact h

theorem evaluateConverter_soundAround {s : State} (h : s.SoundAround) : (evaluateConverter s).SoundAround := by
  unfold evaluateConverter
  split
  · exact stageFault_soundAround h
  · exact h

/-- A silent stage costs the composer its draw alone. -/
theorem evaluateSilence_composer (s : State) :
    (evaluateSilence s).composer = { s.composer with draw := (evaluateSilence s).composer.draw } := by
  unfold evaluateSilence
  split <;> simp

theorem evaluateSilence_sound {s : State} (h : s.Sound) : (evaluateSilence s).Sound := by
  refine (evaluateSilence_soundAround h.around).sound (h.composer.of_same ?_ ?_ ?_ ?_ ?_ ?_ ?_ ?_ ?_ ?_ ?_ ?_ ?_ ?_)
  all_goals rw [evaluateSilence_composer]

/-! ## The energy account -/

theorem integrateDelta_range {p : Int} {a : Account} (hp : -36000 < p ∧ p < 36000)
    (hres : -36000 < a.deltaResidue ∧ a.deltaResidue < 36000) (hdelta : -32767 ≤ a.delta ∧ a.delta ≤ 32767) :
    (-36000 < (integrateDelta p a).deltaResidue ∧ (integrateDelta p a).deltaResidue < 36000)
      ∧ -32767 ≤ (integrateDelta p a).delta ∧ (integrateDelta p a).delta ≤ 32767 := by
  have hunits : transferUnits = 36000 := rfl
  unfold integrateDelta
  split
  · exact ⟨by dsimp only; omega, by dsimp only; omega⟩
  split
  · exact ⟨by dsimp only; omega, by dsimp only; omega⟩
  · exact ⟨by dsimp only; omega, hdelta⟩

theorem bump_le {n : Nat} (m : Nat) (h : n ≤ m) : bump m n ≤ m := by
  unfold bump
  split <;> omega

theorem integrateIn_range {p : Int} {a : Account} (hp : -36000 < p ∧ p < 36000) (hres : a.inResidue < 36000)
    (hin : a.energyIn ≤ 65535) : (integrateIn p a).inResidue < 36000 ∧ (integrateIn p a).energyIn ≤ 65535 := by
  have hunits : transferUnits = 36000 := rfl
  unfold integrateIn
  split
  · exact ⟨by dsimp only; omega, bump_le _ hin⟩
  · exact ⟨by dsimp only; omega, hin⟩

theorem integrateOut_range {p : Int} {a : Account} (hp : -36000 < p ∧ p < 36000) (hres : a.outResidue < 36000)
    (hout : a.energyOut ≤ 65535) : (integrateOut p a).outResidue < 36000 ∧ (integrateOut p a).energyOut ≤ 65535 := by
  have hunits : transferUnits = 36000 := rfl
  unfold integrateOut
  split
  · exact ⟨by dsimp only; omega, bump_le _ hout⟩
  · exact ⟨by dsimp only; omega, hout⟩

/-- Each accumulator moves its own two fields alone. -/
@[simp] theorem integrateDelta_frame (p : Int) (a : Account) :
    (integrateDelta p a).inResidue = a.inResidue ∧ (integrateDelta p a).energyIn = a.energyIn
      ∧ (integrateDelta p a).outResidue = a.outResidue ∧ (integrateDelta p a).energyOut = a.energyOut := by
  unfold integrateDelta
  repeat' split
  all_goals exact ⟨rfl, rfl, rfl, rfl⟩

@[simp] theorem integrateIn_frame (p : Int) (a : Account) :
    (integrateIn p a).deltaResidue = a.deltaResidue ∧ (integrateIn p a).delta = a.delta
      ∧ (integrateIn p a).outResidue = a.outResidue ∧ (integrateIn p a).energyOut = a.energyOut := by
  unfold integrateIn
  split <;> exact ⟨rfl, rfl, rfl, rfl⟩

@[simp] theorem integrateOut_frame (p : Int) (a : Account) :
    (integrateOut p a).deltaResidue = a.deltaResidue ∧ (integrateOut p a).delta = a.delta
      ∧ (integrateOut p a).inResidue = a.inResidue ∧ (integrateOut p a).energyIn = a.energyIn := by
  unfold integrateOut
  split <;> exact ⟨rfl, rfl, rfl, rfl⟩

/-- One measured power stays below one transfer of 36000 units, so integration keeps every residue below it (R52, R53). -/
theorem integrate_inRange {p : Int} {s : State} (h : s.AccountInRange) (hp : -36000 < p ∧ p < 36000) :
    (updateEstimate (s.setAccount (integrate p s.account))).AccountInRange := by
  have hdelta := integrateDelta_range hp h.deltaResidue h.delta
  have hin := integrateIn_range (a := integrateDelta p s.account) hp (by simpa using h.inResidue)
    (by simpa using h.energyIn)
  have hout := integrateOut_range (a := integrateIn p (integrateDelta p s.account)) hp (by simpa using h.outResidue)
    (by simpa using h.energyOut)
  constructor
  case enow => exact updateEstimate_enow
  all_goals simp only [updateEstimate_account, State.setAccount_account, integrate, integrateOut_frame, integrateIn_frame]
  exacts [hdelta.1, hdelta.2, hin.1, hin.2, hout.1, hout.2]

theorem handOver_soundAround {p : Int} {s : State} (h : s.SoundAround) (hp : -36000 < p ∧ p < 36000) :
    (handOver p s).SoundAround := by
  unfold handOver
  split
  · exact h.of_session h.session.of_same (updateLending_accountSound (integrate_inRange h.account.inRange hp))
      h.share.of_same
  · exact h

theorem toInt_range (w : Word) : -36000 < w.toInt ∧ w.toInt < 36000 := by
  have := w.toInt_lt
  have := w.le_toInt
  omega

/-! ## REPORTs of a post -/

theorem rederate_soundAround {w : WorkingCopy} {s : State} (h : s.SoundAround) : (rederate w s).SoundAround := by
  unfold rederate
  split
  · exact h.setComposer _
  · exact recomputeIfLinked_soundAround (h.setComposer _)

/-- Whether or not Pderated changes, the composer that a derating leaves is the derated one (R154). -/
theorem rederate_composer (w : WorkingCopy) (s : State) : (rederate w s).composer = s.composer.derated w := by
  unfold rederate
  split <;> simp

/-- What 8.6 states of the stage mode and of the counts and timers that belong to it. -/
structure Composer.ModeSound (c : Composer) : Prop where
  settle : c.settle ≤ 2
  run : c.mode ≠ .run → c.settle = 0 ∧ c.idleTimer = 0
  wake : c.wakeTimer.isSome = (c.mode == .wake)
  wakeTime : ∀ e ∈ c.wakeTimer, e ≤ wakeLimit
  timedOut : c.timedOut = true → c.mode = .standby

theorem State.ComposerSound.mode {s : State} (h : s.ComposerSound) : s.composer.ModeSound :=
  ⟨h.settle, h.run, h.wake, h.wakeTime, h.timedOut⟩

/-- A composer in action takes another stage mode. -/
theorem State.ComposerSound.withMode {s : State} {c : Composer} (h : s.ComposerSound) (hcomposes : s.composes = true)
    (mode : c.ModeSound) (upperClamp : c.upperClamp = s.composer.upperClamp := by rfl)
    (lowerClamp : c.lowerClamp = s.composer.lowerClamp := by rfl) (target : c.target = s.composer.target := by rfl)
    (demand : c.demand = s.composer.demand := by rfl) (output : c.output = s.composer.output := by rfl)
    (residue : c.residue = s.composer.residue := by rfl)
    (silentCount : c.silentCount = s.composer.silentCount := by rfl)
    (feederSample : c.feederSample = s.composer.feederSample := by rfl) : (s.setComposer c).ComposerSound := by
  have hafter : (s.setComposer c).composes = true := hcomposes
  constructor
  case idle => exact fun hidle => absurd hidle (by simp [hafter])
  case sample => rw [State.setComposer_composer, feederSample]; exact h.sample
  all_goals
    simp only [State.setComposer_composer, State.setComposer_store, upperClamp, lowerClamp, target, demand, output,
      residue, silentCount]
  exacts [h.clamps, h.target, h.demand, h.residue, h.quantum, mode.settle, mode.run, mode.wake, mode.wakeTime,
    mode.timedOut, h.silent]

theorem Composer.wakeUp_modeSound (c : Composer) : c.wakeUp.ModeSound := by
  constructor <;> simp [Composer.wakeUp]

/-- A composer in STANDBY: a STAGE_TIMEOUT may stand. -/
theorem Composer.standBy_modeSound (c : Composer) : c.standBy.ModeSound := by
  constructor <;> simp [Composer.standBy]

theorem Composer.timeOut_modeSound (c : Composer) : c.timeOut.ModeSound := by
  constructor <;> simp [Composer.timeOut, Composer.standBy]

theorem Composer.reported_modeSound {state : Converter} {c : Composer} (h : c.ModeSound) :
    (c.reported state).ModeSound := by
  unfold Composer.reported
  split
  · exact h
  · next hmode =>
    split
    · constructor
      case timedOut => exact fun hout => absurd (h.timedOut hout) (by simp [hmode])
      all_goals simp
    · exact h
  · split
    · exact h
    · split
      · exact c.wakeUp_modeSound
      · exact c.standBy_modeSound

/-- A reported state moves the mode, its counts and its timers alone (R160). -/
theorem Composer.reported_frame (state : Converter) (c : Composer) :
    (c.reported state).upperClamp = c.upperClamp ∧ (c.reported state).lowerClamp = c.lowerClamp
      ∧ (c.reported state).target = c.target ∧ (c.reported state).demand = c.demand
      ∧ (c.reported state).output = c.output ∧ (c.reported state).residue = c.residue
      ∧ (c.reported state).silentCount = c.silentCount ∧ (c.reported state).feederSample = c.feederSample := by
  unfold Composer.reported
  repeat' split
  all_goals exact ⟨rfl, rfl, rfl, rfl, rfl, rfl, rfl, rfl⟩

/-- The composer with a REPORT's values stored (R153, steps 1 to 3). -/
def Composer.storeReport (r : WireReport) (state : Converter) (c : Composer) : Composer :=
  { c with
    draw := r.power.toInt, converter := some state, temperature := some r.temperature.toInt, silentCount := 0 }

/-- The composer that a REPORT leaves: its values stored, the derating computed, the mode moved. -/
theorem acceptReport_composer (w : WorkingCopy) (r : WireReport) (state : Converter) (s : State) :
    (acceptReport w r state s).composer = ((s.composer.storeReport r state).derated w).reported state := by
  simp [acceptReport, rederate_composer, Composer.storeReport]

/-- A REPORT taken by a post keeps every invariant (R153). -/
theorem acceptReport_sound {w : WorkingCopy} {r : WireReport} {state : Converter} {s : State} (h : s.Sound)
    (hcomposes : s.composes = true) : (acceptReport w r state s).Sound := by
  refine State.SoundAround.sound
    (handOver_soundAround (evaluateConverter_soundAround ((rederate_soundAround (h.around.setComposer _)).setComposer _))
      (toInt_range _)) ?_
  have hstored : (s.setComposer ((s.composer.storeReport r state).derated w)).ComposerSound := by
    obtain ⟨h1, h2, h3, h4, h5, h6, h7, h8, h9, h10, -, h12, h13⟩ := h.composer
    exact ⟨h1, h2, h3, h4, h5, h6, h7, h8, h9, h10, Nat.zero_le _, h12, h13⟩
  obtain ⟨e1, e2, e3, e4, e5, e6, e7, e8⟩ :=
    Composer.reported_frame state ((s.composer.storeReport r state).derated w)
  have hmoved := hstored.withMode hcomposes (Composer.reported_modeSound hstored.mode) e1 e2 e3 e4 e5 e6 e7 e8
  exact hmoved.of_composer (acceptReport_composer w r state s)

/-! ## Feeder samples -/

/-- A requested SHED waits behind one that is being sent, or is put in hand (R76). -/
theorem requestShed_linkSound {fraction : Nat} {s : State} (h : s.LinkSound) (hmeter : s.isMeter = true) :
    (requestShed fraction s).LinkSound := by
  obtain ⟨h1, h2, h3, h4, h5, h6, h7, h8, h9, h10, h11⟩ := h
  unfold requestShed
  split
  next hrunning =>
    split
    · next hsending =>
      exact ⟨h1, fun hr => absurd hrunning hr, h3, h4, h5, h6, h7, fun _ => hsending, h9, h10, h11⟩
    · next hsending =>
      refine ⟨h1, fun hr => absurd hrunning hr, h3, h4, fun hs => absurd hs hsending, h6, ?_, h8, fun _ => hmeter,
        h10, h11⟩
      simp
  · exact ⟨h1, h2, h3, h4, h5, h6, h7, h8, h9, h10, h11⟩

theorem requestShed_station (fraction : Nat) (s : State) :
    (requestShed fraction s).link.station = s.link.station := by
  unfold requestShed
  repeat' split
  all_goals rfl

/-- The overload count and the shedding flag belong to a meter, whose allowance is 0 (R119). -/
theorem State.ShareSound.overloaded {s : State} {sh : Share} {n : Nat} (h : s.ShareSound) (hmeter : s.isMeter = true)
    (hn : ∀ w ∈ s.store.working, n ≤ w.ntrip) (shedding : Bool) (fraction : Option Nat)
    (hsh : sh = { s.share with overloadCount := n, shedding := shedding, lastFraction := fraction }) :
    (s.setShare sh).ShareSound := by
  obtain ⟨h1, h2, h3, h4, h5, h6, h7, h8, h9, -, -, h12⟩ := h
  subst hsh
  exact ⟨h1, h2, h3, h4, h5, h6, h7, h8, h9, fun hno => absurd (hmeter.symm.trans hno) (by decide), hn, h12⟩

theorem countSample_eq (w : WorkingCopy) (m : Int) (sh : Share) :
    countSample w m sh = { sh with
      overloadCount := (countSample w m sh).overloadCount, shedding := (countSample w m sh).shedding } := by
  unfold countSample
  repeat' split
  all_goals rfl

theorem countSample_overloadCount_le {w : WorkingCopy} {sh : Share} (m : Int) (h : sh.overloadCount ≤ w.ntrip) :
    (countSample w m sh).overloadCount ≤ w.ntrip := by
  unfold countSample
  repeat' split
  · exact h
  · exact Nat.min_le_right ..
  · exact Nat.zero_le _

theorem setFeederSample_sound {s : State} (h : s.Sound) (hpost : s.isPost = false) (x : Option Int) :
    (s.setComposer { s.composer with feederSample := x }).Sound := by
  obtain ⟨h1, h2, h3, h4, h5, h6, h7, h8, h9, h10, h11, h12, -⟩ := h.composer
  exact (h.around.setComposer _).sound
    ⟨h1, h2, h3, h4, h5, h6, h7, h8, h9, h10, h11, h12, fun hp => absurd (hpost.symm.trans hp) (by decide)⟩

/-- An overload count moves nothing that the other invariants read. -/
theorem setShare_overloaded_sound {s : State} {sh : Share} {n : Nat} (h : s.Sound) (hmeter : s.isMeter = true)
    (hn : ∀ w ∈ s.store.working, n ≤ w.ntrip) (shedding : Bool) (fraction : Option Nat)
    (hsh : sh = { s.share with overloadCount := n, shedding := shedding, lastFraction := fraction }) :
    (s.setShare sh).Sound := by
  have hshare := h.share.overloaded hmeter hn shedding fraction hsh
  refine State.SoundAround.sound ?_ h.composer.of_same
  exact h.around.of_session h.session.of_same h.account.of_same hshare (shedHold := by simp [hsh])

theorem requestShed_sound {fraction : Nat} {s : State} (h : s.Sound) (hmeter : s.isMeter = true) :
    (requestShed fraction s).Sound where
  configured := h.configured.of_same (station := requestShed_station fraction s)
  memory := h.memory.of_same
  session := h.session.of_same
  account := h.account.of_same
  link := requestShed_linkSound h.link hmeter
  table := h.table.of_same (station := requestShed_station fraction s)
  share := h.share.of_same (station := requestShed_station fraction s)
  reserve := h.reserve.of_same (station := requestShed_station fraction s)
  composer := h.composer.of_same (station := by rw [requestShed_station])

theorem detectOverload_sound {w : WorkingCopy} {m : Int} {s : State} (h : s.Sound) (hw : s.store.working = some w)
    (hmeter : s.isMeter = true) : (detectOverload w m s).Sound := by
  have hntrip : ∀ v ∈ s.store.working, (countSample w m s.share).overloadCount ≤ v.ntrip := by
    intro v hv
    obtain rfl : w = v := Option.some.inj (hw.symm.trans hv)
    exact countSample_overloadCount_le m (h.share.overload w hv)
  have hcounted : (s.setShare (countSample w m s.share)).Sound :=
    setShare_overloaded_sound h hmeter hntrip _ _ (countSample_eq w m s.share)
  unfold detectOverload
  split
  · unfold shedSample
    split
    · exact setShare_overloaded_sound hcounted hmeter (fun _ _ => Nat.zero_le _) false _ rfl
    · split
      · exact hcounted
      · exact requestShed_sound (setShare_overloaded_sound hcounted hmeter hntrip _ _ rfl) hmeter
  · exact hcounted

theorem isMeter_of_role {s : State} {w : WorkingCopy} (hw : s.store.working = some w) (hrole : w.role ≠ .post) :
    s.isMeter = true := by
  cases hr : w.role with
  | post => exact absurd hr hrole
  | meter => simp [State.isMeter, State.role, hw, hr]

theorem isPost_of_role {s : State} {w : WorkingCopy} (hw : s.store.working = some w) (hrole : w.role = .post) :
    s.isPost = true := by
  simp [State.isPost, State.role, hw, hrole]

theorem acceptSample_sound {w : WorkingCopy} {m : Int} {s : State} (h : s.Sound) (hw : s.store.working = some w)
    (hmeter : s.isMeter = true) : (acceptSample w m s).Sound := by
  have hstored := setFeederSample_sound h (isPost_of_isMeter hmeter) (some m)
  unfold acceptSample
  split
  · exact detectOverload_sound hstored hw hmeter
  · exact hstored

/-- Outside LISTENING, RUNNING and CLASH there is no working copy (R67). -/
theorem State.Configured.working_none {s : State} (h : s.Configured) (hs : s.link.station.active = false) :
    s.store.working = none := by
  rw [← Option.not_isSome_iff_eq_none, h.exists_, hs]
  exact Bool.false_ne_true

theorem isPost_of_no_working {s : State} (h : s.store.working = none) : s.isPost = false := by
  simp [State.isPost, State.role, h]

theorem receiveReport_sound {r : WireReport} {s : State} (h : s.Sound) : (receiveReport r s).Sound := by
  rcases receiveReport_cases r s with ⟨-, he⟩ | ⟨state, -, ⟨hactive, he⟩ | ⟨hidle, he⟩⟩
  · rwa [he]
  · rw [he, acceptByRole]
    split
    next w hw =>
      split
      · next hrole => exact acceptReport_sound h (by simp [State.composes, isPost_of_role hw hrole, hactive])
      · next hrole => exact acceptSample_sound h hw (isMeter_of_role hw hrole)
    · exact h
  · rw [he]
    have hnone := h.configured.working_none hidle
    refine (setFeederSample_sound h (isPost_of_no_working hnone)
      (if Config.sampleReachesFeed s.freeDraws then some r.power.toInt else s.composer.feederSample)).of_same (composer := ?_)
    simp [sampleWithoutCopy]

/-! ## The control period -/

/-- What holds of the composer between two steps of a control period, from the clamped target on (R155). -/
structure State.PeriodSound (s : State) : Prop where
  composes : s.composes = true
  clamps : s.composer.lowerClamp ≤ 0 ∧ 0 ≤ s.composer.upperClamp
  target : s.composer.lowerClamp ≤ s.composer.target ∧ s.composer.target ≤ s.composer.upperClamp
  mode : s.composer.ModeSound
  silent : s.composer.silentCount ≤ 255
  sample : s.isPost = true → s.composer.feederSample = none

theorem State.ComposerSound.of_period {s : State} (h : s.PeriodSound)
    (demand : s.composer.lowerClamp ≤ s.composer.demand ∧ s.composer.demand ≤ s.composer.upperClamp)
    (residue : ∀ w ∈ s.store.working, 0 ≤ s.composer.residue ∧ s.composer.residue < w.qstep)
    (quantum : ∀ w ∈ s.store.working, (w.qstep : Int) ∣ s.composer.demand ∧ (w.qstep : Int) ∣ s.composer.output) :
    s.ComposerSound := by
  obtain ⟨h1, h2, h3, ⟨h4, h5, h6, h7, h8⟩, h9, h10⟩ := h
  exact ⟨h2, h3, demand, residue, quantum, h4, h5, h6, h7, h8, h9, fun hidle => absurd hidle (by simp [h1]), h10⟩

/-- The mode and its counts move within the period. -/
theorem State.PeriodSound.withMode {s : State} {c : Composer} (h : s.PeriodSound) (mode : c.ModeSound)
    (upperClamp : c.upperClamp = s.composer.upperClamp := by rfl)
    (lowerClamp : c.lowerClamp = s.composer.lowerClamp := by rfl) (target : c.target = s.composer.target := by rfl)
    (silentCount : c.silentCount = s.composer.silentCount := by rfl)
    (feederSample : c.feederSample = s.composer.feederSample := by rfl) : (s.setComposer c).PeriodSound := by
  obtain ⟨h1, h2, h3, -, h5, h6⟩ := h
  refine ⟨h1, ?_, ?_, mode, ?_, ?_⟩ <;>
    simp only [State.setComposer_composer, upperClamp, lowerClamp, target, silentCount, feederSample]
  exacts [h2, h3, h5, h6]

theorem composes_of_same {s t : State} (working : t.store.working = s.store.working)
    (station : t.link.station = s.link.station) : t.composes = s.composes := by
  simp [State.composes, isPost_of_same working, station]

theorem State.PeriodSound.of_composer {s t : State} (h : s.PeriodSound) (composer : t.composer = s.composer)
    (station : t.link.station = s.link.station) (working : t.store.working = s.store.working) : t.PeriodSound := by
  obtain ⟨h1, h2, h3, h4, h5, h6⟩ := h
  rw [← composes_of_same working station] at h1
  rw [← isPost_of_same working] at h6
  rw [← composer] at h2 h3 h4 h5 h6
  exact ⟨h1, h2, h3, h4, h5, h6⟩

theorem periodSilence_sound {s : State} (h : s.Sound) : (periodSilence s).Sound := by
  refine evaluateSilence_sound ((h.around.setComposer _).sound ?_)
  obtain ⟨h1, h2, h3, h4, h5, h6, h7, h8, h9, h10, h11, h12, h13⟩ := h.composer
  exact ⟨h1, h2, h3, h4, h5, h6, h7, h8, h9, h10, bump_le _ h11, h12, h13⟩

theorem clampInt_range {lo hi : Int} (h : lo ≤ hi) (x : Int) : lo ≤ clampInt lo hi x ∧ clampInt lo hi x ≤ hi := by
  unfold clampInt
  omega

/-- The first four steps of a period leave a clamped target (R157). -/
theorem periodTarget_periodSound {w : WorkingCopy} {s : State} (h : s.Sound) (hcomposes : s.composes = true) :
    (periodTarget (periodRamp w (periodClamps s))).PeriodSound := by
  have hclamps : -(s.account.offer : Int) ≤ 0 ∧ (0 : Int) ≤ s.upperClamp := ⟨by omega, by omega⟩
  obtain ⟨h1, h2, h3, h4, h5⟩ := h.composer.mode
  exact ⟨hcomposes, hclamps, clampInt_range (hclamps.1.trans hclamps.2) _, ⟨h1, h2, h3, h4, h5⟩, h.composer.silent,
    h.composer.sample⟩

theorem periodWake_periodSound {s : State} (h : s.PeriodSound) : (periodWake s).PeriodSound := by
  unfold periodWake
  split
  · exact h.withMode (Composer.wakeUp_modeSound _)
  · exact h

theorem periodIdle_periodSound {w : WorkingCopy} {s : State} (h : s.PeriodSound) : (periodIdle w s).PeriodSound := by
  unfold periodIdle
  split
  · next hrun =>
    have hidled : ∀ n, ({ s.composer with idleTimer := n } : Composer).ModeSound := fun n => by
      obtain ⟨h1, -, h3, h4, h5⟩ := h.mode
      exact ⟨h1, fun hno => absurd hrun hno, h3, h4, h5⟩
    repeat' split
    · exact h.withMode (Composer.standBy_modeSound _)
    · exact h.withMode (hidled _)
    · exact h.withMode (hidled _)
  · exact h

theorem periodOffer_periodSound {s : State} (h : s.PeriodSound) : (periodOffer s).PeriodSound := by
  obtain ⟨h1, h2, h3, h4, h5, h6⟩ := h
  refine ⟨h1, ⟨?_, h2.2⟩, ⟨?_, ?_⟩, ⟨h4.settle, h4.run, h4.wake, h4.wakeTime, h4.timedOut⟩, h5, h6⟩
  all_goals simp only [periodOffer, State.setComposer_composer]
  all_goals omega

theorem periodMode_periodSound {w : WorkingCopy} {s : State} (h : s.PeriodSound) : (periodMode w s).PeriodSound :=
  periodOffer_periodSound
    ((periodIdle_periodSound (w := w) (periodWake_periodSound h)).of_composer (by simp) (by simp) (by simp))

theorem periodMode_soundAround {w : WorkingCopy} {s : State} (h : s.SoundAround) : (periodMode w s).SoundAround :=
  (evaluateConverter_soundAround h.of_same).setComposer _

/-- The output of a dither: a multiple of QSTEP within the clamps, with a residue below QSTEP (R158). -/
theorem dithered_range {q : Nat} {lower upper : Int} (hq : 0 < q) (hl : lower ≤ 0) (hu : 0 ≤ upper)
    (target residue : Int) :
    lower ≤ (dithered q lower upper target residue).1 ∧ (dithered q lower upper target residue).1 ≤ upper
      ∧ (q : Int) ∣ (dithered q lower upper target residue).1
      ∧ 0 ≤ (dithered q lower upper target residue).2 ∧ (dithered q lower upper target residue).2 < q := by
  have hq' : (0 : Int) < q := by exact_mod_cast hq
  have hlow : lower ≤ demandLow q lower ∧ demandLow q lower ≤ 0 := by
    have := Int.mul_ediv_self_le (x := -lower) hq'.ne'
    have := mul_nonneg hq'.le (Int.ediv_nonneg (neg_nonneg.mpr hl) hq'.le)
    unfold demandLow
    omega
  have hhigh : 0 ≤ demandHigh q upper ∧ demandHigh q upper ≤ upper :=
    ⟨mul_nonneg hq'.le (Int.ediv_nonneg hu hq'.le), Int.mul_ediv_self_le hq'.ne'⟩
  have hrest : 0 ≤ target + residue - ditherOf q (target + residue)
      ∧ target + residue - ditherOf q (target + residue) < q := by
    have := Int.mul_ediv_self_le (x := target + residue) hq'.ne'
    have := Int.lt_mul_ediv_self_add (x := target + residue) hq'
    unfold ditherOf
    omega
  unfold dithered
  split
  · exact ⟨hlow.1, hlow.2.trans hu, (Int.dvd_neg).mpr (Int.dvd_mul_right ..), le_rfl, hq'⟩
  split
  · exact ⟨hl.trans hhigh.1, hhigh.2, Int.dvd_mul_right .., le_rfl, hq'⟩
  · next hlo hhi => exact ⟨by dsimp only; omega, by dsimp only; omega, Int.dvd_mul_right .., hrest.1, hrest.2⟩

/-- Whatever a period delivers, the composer is sound again once it is composed (R158, R159). -/
theorem periodDither_composerSound {w : WorkingCopy} {s : State} (h : s.PeriodSound) (hw : s.store.working = some w)
    (hq : 0 < w.qstep) : (periodDither w s).ComposerSound := by
  obtain ⟨hlo, hhi, hdvd, hres, hlt⟩ :=
    dithered_range hq h.clamps.1 h.clamps.2 s.composer.target s.composer.residue
  have hsame : ∀ v ∈ s.store.working, v = w := fun v hv => Option.some.inj (hv.symm.trans hw)
  have hzero : s.composer.lowerClamp ≤ 0 ∧ 0 ≤ s.composer.upperClamp := h.clamps
  have hpos : (0 : Int) < w.qstep := by exact_mod_cast hq
  obtain ⟨h1, h2, h3, ⟨h4, h5, h6, h7, h8⟩, h9, h10⟩ := h
  unfold periodDither
  dsimp only
  split
  · refine State.ComposerSound.of_period ⟨h1, h2, h3, ⟨h4, h5, h6, h7, h8⟩, h9, h10⟩ ⟨hlo, hhi⟩ ?_ ?_
    · intro v hv
      rw [hsame v hv]
      exact ⟨hres, hlt⟩
    · intro v hv
      rw [hsame v hv]
      exact ⟨hdvd, hdvd⟩
  · refine State.ComposerSound.of_period ⟨h1, h2, h3, ⟨?_, ?_, h6, h7, h8⟩, h9, h10⟩ hzero ?_ ?_
    · exact (Nat.sub_le ..).trans h4
    · exact fun hr => ⟨by simp [(h5 hr).1], (h5 hr).2⟩
    · intro v hv
      rw [hsame v hv]
      exact ⟨le_rfl, hpos⟩
    · intro v hv
      rw [hsame v hv]
      exact ⟨Int.dvd_zero _, hdvd⟩

theorem periodSend_composerSound {s : State} (h : s.ComposerSound) : (periodSend s).ComposerSound := by
  obtain ⟨h1, h2, h3, h4, h5, h6, h7, h8, h9, h10, h11, h12, h13⟩ := h
  exact ⟨h1, h2, h3, h4, h5, h6, h7, h8, h9, h10, h11, h12, h13⟩

/-- A PERMIT takes the place of a waiting one (R11, R12). -/
theorem periodPermit_soundAround {s : State} (h : s.SoundAround) : (periodPermit s).SoundAround := by
  unfold periodPermit
  split
  · next hl =>
    refine h.of_session ?_ (h.account.of_same (status := rfl)) h.share.of_same
    obtain ⟨h1, h2, h3, h4, h5, h6, h7, h8, h9, h10, h11, h12, h13, h14, -, -⟩ := h.session
    refine ⟨h1, h2, h3, h4, h5, h6, h7, h8, h9, h10, h11, h12, h13, h14, ?_,
      fun hno => absurd (hl.symm.trans hno) (by decide)⟩
    simp only [State.setVehicle_vehicle, List.filter_append, filter_isPermit_withoutPermit]
    exact List.length_filter_le ..
  · exact h

theorem controlPeriod_sound {w : WorkingCopy} {s : State} (h : s.Sound) (hw : s.store.working = some w)
    (hcomposes : s.composes = true) : (controlPeriod w s).Sound := by
  have hsilent := periodSilence_sound h
  have hcomposes' : (periodSilence s).composes = true := by
    rw [composes_of_same (s := s) (by simp) (by simp)]
    exact hcomposes
  have hmode := periodMode_periodSound (w := w) (periodTarget_periodSound (w := w) hsilent hcomposes')
  have hdither := periodDither_composerSound hmode (by simpa using hw) (h.configured.range w hw).qstep.1
  have htarget : (periodTarget (periodRamp w (periodClamps (periodSilence s)))).SoundAround :=
    ((hsilent.around.setComposer _).setComposer _).setComposer _
  have hsent := periodSend_composerSound hdither
  exact State.SoundAround.sound (periodPermit_soundAround (periodMode_soundAround (w := w) htarget).of_same)
    (hsent.of_composer (by simp [controlPeriod]))

theorem controlPeriodTaken_sound {s : State} (h : s.Sound) : (controlPeriodTaken s).Sound := by
  unfold controlPeriodTaken
  split
  next w hw =>
    split
    · next hcomposes => exact controlPeriod_sound h hw hcomposes
    · exact h
  · exact h

/-! ## The limits of the stage -/

theorem idleExpired_sound {s : State} (h : s.Sound) : (idleExpired s).Sound := by
  unfold idleExpired
  split
  next w hw =>
    split
    · next hidle =>
      have hcomposes : s.composes = true := (Bool.and_eq_true_iff.mp (Bool.and_eq_true_iff.mp hidle).1).1
      exact (h.around.setComposer _).sound (h.composer.withMode hcomposes (Composer.standBy_modeSound _))
    · exact h
  · exact h

theorem wakeExpired_sound {s : State} (h : s.Sound) : (wakeExpired s).Sound := by
  unfold wakeExpired
  split
  · next hlimit =>
    have hcomposes : s.composes = true := by
      by_contra hno
      have hmode := (h.composer.idle (by simpa using hno)).1
      have hwake := h.composer.wake
      simp [hlimit, hmode] at hwake
    have htimed := h.composer.withMode hcomposes (Composer.timeOut_modeSound s.composer)
    exact (stageFault_soundAround (h.around.setComposer _)).sound htimed.of_same
  · exact h

theorem updateLending_sound {s : State} (h : s.Sound) : (updateLending s).Sound :=
  (h.around.of_session h.session.of_same (updateLending_accountSound h.account.inRange) h.share.of_same).sound
    h.composer.of_same

end Sys2Proof.Machine


/-! PROOFS. The reserve unit's operations keep its invariants: offers, the division of the commitments, ALONE, sheds, and
the measurements of the mains. -/

namespace Sys2Proof.Machine

/-! ## The parts of the reserve unit's invariant -/

/-- The bounds of R145 on shares and response. -/
structure Reserve.SharesSound (r : Reserve) : Prop where
  up : r.upShare ≤ r.offerUp
  down : r.downShare ≤ r.offerDown
  response : -(r.downShare : Int) ≤ r.response ∧ r.response ≤ r.upShare

/-- The tables of 7.3: what each reserve state holds. -/
structure Reserve.StateSound (r : Reserve) : Prop where
  dead : r.state = .disabled ∨ r.state = .mainsLost →
    r.offerUp = 0 ∧ r.offerDown = 0 ∧ r.active = 0 ∧ r.droop = 0
  starting : r.state = .starting → r.history.length ≤ 2 ∧ r.active = 0 ∧ r.droop = 0 ∧ r.response = 0
  measuring : r.state = .measuring → r.history.length = 3
  disabled : r.state = .disabled → r.history = []
  lost : r.state = .mainsLost → r.history.length = r.recoveryCount ∧ r.recoveryCount ≤ 2
  droop : r.droop ≤ 1024

theorem State.ReserveSound.shares {s : State} (h : s.ReserveSound) : s.reserve.SharesSound :=
  ⟨h.up, h.down, h.response⟩

theorem State.ReserveSound.states {s : State} (h : s.ReserveSound) : s.reserve.StateSound :=
  ⟨h.dead, h.starting, h.measuring, h.disabled, h.lost, h.droop⟩

theorem State.ReserveSound.of_parts {s : State} (shares : s.reserve.SharesSound) (states : s.reserve.StateSound)
    (grounded : s.responds = false →
      s.reserve.offerUp = 0 ∧ s.reserve.offerDown = 0 ∧ s.reserve.shortUp = false ∧ s.reserve.shortDown = false)
    (shed : s.share.shedHold = true → s.reserve.upShare = 0)
    (idle : s.link.station.active = false → s.reserve.state = .starting) : s.ReserveSound :=
  ⟨shares.up, shares.down, shares.response, grounded, states.dead, states.starting, states.measuring,
    states.disabled, states.lost, states.droop, shed, idle⟩

/-- The response lowered to shares that lie within the offers (R145). -/
theorem lowerResponse_sharesSound {r : Reserve} (up : r.upShare ≤ r.offerUp) (down : r.downShare ≤ r.offerDown) :
    (lowerResponse r).SharesSound := by
  refine ⟨up, down, ?_⟩
  simp only [lowerResponse, clampInt]
  omega

/-- A lowered response of 0 stays 0. -/
theorem lowerResponse_stateSound {r : Reserve} (h : r.StateSound) : (lowerResponse r).StateSound := by
  obtain ⟨h1, h2, h3, h4, h5, h6⟩ := h
  refine ⟨h1, fun hr => ?_, h3, h4, h5, h6⟩
  obtain ⟨hhistory, hactive, hdroop, hresponse⟩ := h2 hr
  refine ⟨hhistory, hactive, hdroop, ?_⟩
  simp only [lowerResponse, clampInt, hresponse]
  omega

/-- The shares and the short flags are read by no reserve state. -/
theorem Reserve.StateSound.withShares {r : Reserve} (h : r.StateSound) (up down : Nat) (shortUp shortDown : Bool) :
    ({ r with upShare := up, downShare := down, shortUp := shortUp, shortDown := shortDown } : Reserve).StateSound := by
  obtain ⟨h1, h2, h3, h4, h5, h6⟩ := h
  exact ⟨h1, h2, h3, h4, h5, h6⟩

theorem Reserve.StateSound.withOffers {r : Reserve} (h : r.StateSound) {up down : Nat}
    (hdead : r.state = .disabled ∨ r.state = .mainsLost → up = 0 ∧ down = 0) :
    ({ r with offerUp := up, offerDown := down } : Reserve).StateSound := by
  obtain ⟨h1, h2, h3, h4, h5, h6⟩ := h
  exact ⟨fun hd => ⟨(hdead hd).1, (hdead hd).2, (h1 hd).2.2.1, (h1 hd).2.2.2⟩, h2, h3, h4, h5, h6⟩

theorem lowerShares_stateSound {up down : Nat} {r : Reserve} (h : r.StateSound) : (lowerShares up down r).StateSound :=
  lowerResponse_stateSound (h.withShares _ _ _ _)

/-- Shares lowered to bounds within the offers (R145). -/
theorem lowerShares_sharesSound {up down : Nat} {r : Reserve} (hup : min r.upShare up ≤ r.offerUp)
    (hdown : min r.downShare down ≤ r.offerDown) : (lowerShares up down r).SharesSound :=
  lowerResponse_sharesSound hup hdown

/-! ## Offers (R142) -/

theorem offers_of_dead {s : State} (h : s.reserve.state = .disabled ∨ s.reserve.state = .mainsLost) :
    s.offers = false := by
  rcases h with h | h <;> simp [State.offers, h]

theorem offers_of_grounded {s : State} (h : s.responds = false) : s.offers = false := by
  simp [State.offers, h]

theorem offersNow_zero {s : State} (h : s.offers = false) : s.offerUpNow = 0 ∧ s.offerDownNow = 0 := by
  simp [State.offerUpNow, State.offerDownNow, h]

theorem computeOffers_reserveSound {s : State} (h : s.ReserveSound) : (computeOffers s).ReserveSound := by
  refine State.ReserveSound.of_parts (lowerShares_sharesSound (Nat.min_le_right ..) (Nat.min_le_right ..))
    (lowerShares_stateSound (h.states.withOffers fun hd => offersNow_zero (offers_of_dead hd))) (fun hr => ?_)
    (fun hs => ?_) h.idle
  · obtain ⟨hup, hdown⟩ := offersNow_zero (offers_of_grounded (s := s) hr)
    exact ⟨hup, hdown, (h.grounded hr).2.2⟩
  · have hzero := h.shed hs
    simp [computeOffers, lowerShares, lowerResponse, hzero]

theorem computeOffers_sound {s : State} (h : s.Sound) : (computeOffers s).Sound :=
  ⟨h.configured.of_same, h.memory.of_same, h.session.of_same, h.account.of_same, h.link.of_same, h.table.of_same,
    h.share.of_same, computeOffers_reserveSound h.reserve, h.composer.of_same⟩

/-! ## The division of the commitments (R143) -/

/-- A share never exceeds the own offer (R143). -/
theorem shareOf_le (commitment isldiv : Nat) (alone : Bool) (own total : Nat) :
    (shareOf commitment isldiv alone own total).1 ≤ own := by
  unfold shareOf
  split
  · exact Nat.zero_le _
  split
  · exact Nat.min_le_left ..
  split
  · exact le_rfl
  · next htotal =>
    refine Nat.div_le_of_le_mul ?_
    rw [Nat.mul_comm total own, Nat.mul_comm commitment own]
    exact Nat.mul_le_mul_left own (by omega)

theorem divided_sharesSound (s : State) (w : WorkingCopy) : (s.divided w).SharesSound := by
  refine lowerResponse_sharesSound ?_ (shareOf_le ..)
  dsimp only
  split
  · exact Nat.zero_le _
  · exact shareOf_le ..

/-- An allocation keeps the reserve unit sound (R143 to R145). -/
theorem allocateReserve_reserveSound {s : State} (h : s.ReserveSound) : (allocateReserve s).ReserveSound := by
  unfold allocateReserve
  split
  next w hw =>
    split
    · next hdivides =>
      have hdivided : (s.setReserve (s.divided w)).ReserveSound := by
        refine State.ReserveSound.of_parts (divided_sharesSound s w)
          (lowerResponse_stateSound (h.states.withShares _ _ _ _)) (fun hr => ?_) (fun hs => ?_) h.idle
        · exact absurd (hdivides.symm.trans (offers_of_grounded (s := s) hr)) (by decide)
        · exact if_pos hs
      split
      · exact hdivided.of_same
      · exact hdivided
    · refine State.ReserveSound.of_parts (lowerResponse_sharesSound (Nat.zero_le _) (Nat.zero_le _))
        (lowerResponse_stateSound (h.states.withShares _ _ _ _)) (fun hr => ?_) (fun _ => rfl) h.idle
      obtain ⟨hup, hdown, -⟩ := h.grounded hr
      exact ⟨hup, hdown, rfl, rfl⟩
  · exact h

/-! ## ALONE, sheds and changes of station state -/

/-- An entry to ALONE lowers the shares (R144). -/
theorem reserveAlone_parts {w : WorkingCopy} {r : Reserve} (h : r.SharesSound) (k : r.StateSound) :
    (reserveAlone w r).SharesSound ∧ (reserveAlone w r).StateSound := by
  have hup := h.up
  have hdown := h.down
  exact ⟨lowerShares_sharesSound (by omega) (by omega), lowerShares_stateSound k⟩

theorem reserveShed_parts {r : Reserve} (h : r.SharesSound) (k : r.StateSound) :
    (reserveShed r).SharesSound ∧ (reserveShed r).StateSound :=
  ⟨lowerResponse_sharesSound (Nat.zero_le _) h.down, lowerResponse_stateSound (k.withShares _ _ _ _)⟩

/-- A station state other than RUNNING leaves the unit with no offers, no shares and no response (R147). -/
theorem leaveRunningReserve_parts {r : Reserve} (k : r.StateSound) :
    (leaveRunningReserve r).SharesSound ∧ (leaveRunningReserve r).StateSound := by
  obtain ⟨h1, h2, h3, h4, h5, h6⟩ := k
  refine ⟨⟨le_rfl, le_rfl, by simp [leaveRunningReserve]⟩, ⟨fun hd => ⟨rfl, rfl, (h1 hd).2.2⟩, fun hr => ?_, h3, h4, h5, h6⟩⟩
  obtain ⟨hhistory, hactive, hdroop, -⟩ := h2 hr
  exact ⟨hhistory, hactive, hdroop, rfl⟩

/-! ## Measurements of the mains (R132 to R139) -/

theorem joinThree_length {α : Type} (x : α) (l : List α) :
    (joinThree x l).length = if l.length < 3 then l.length + 1 else 3 := by
  unfold joinThree
  split
  · simp
  · simp
    omega

theorem droopOf_le (w : WorkingCopy) (active : Int) : droopOf w active ≤ 1024 := by
  unfold droopOf
  split
  · exact Nat.zero_le _
  · exact Nat.min_le_left ..

/-- The response is a part of a share (R146). -/
theorem responseOf_range {active : Int} {droop : Nat} (up down : Nat) (h : droop ≤ 1024) :
    -(down : Int) ≤ responseOf active droop up down ∧ responseOf active droop up down ≤ up := by
  have part : ∀ n : Nat, n * droop / 1024 ≤ n := fun n =>
    Nat.div_le_of_le_mul (by rw [Nat.mul_comm]; exact Nat.mul_le_mul_right n h)
  have hup := part up
  have hdown := part down
  unfold responseOf
  repeat' split
  all_goals omega

/-- A history of three gives a measured unit, its shares and offers kept (R136). -/
theorem measured_parts {w : WorkingCopy} {responds : Bool} {r : Reserve} (up : r.upShare ≤ r.offerUp)
    (down : r.downShare ≤ r.offerDown) (state : r.state = .measuring) (history : r.history.length = 3) :
    (measured w responds r).SharesSound ∧ (measured w responds r).StateSound := by
  refine ⟨⟨up, down, ?_⟩, ⟨?_, ?_, fun _ => history, ?_, ?_, droopOf_le ..⟩⟩
  · simp only [measured]
    split
    · exact responseOf_range _ _ (droopOf_le ..)
    · omega
  all_goals simp [measured, state]

theorem takePlausible_parts {w : WorkingCopy} {responds : Bool} {d : Int} {r : Reserve} (h : r.SharesSound)
    (k : r.StateSound) (hstate : r.state = .starting ∨ r.state = .measuring) :
    (takePlausible w responds d r).SharesSound ∧ (takePlausible w responds d r).StateSound := by
  have hlength := joinThree_length d r.history
  unfold takePlausible
  split
  · next hthree =>
    refine measured_parts h.up h.down rfl ?_
    dsimp only
    rcases hthree with hm | h3
    · rw [hlength, k.measuring hm]
      rfl
    · split at hlength <;> omega
  · next hfew =>
    rw [not_or] at hfew
    have hstarting : r.state = .starting := hstate.resolve_right hfew.1
    obtain ⟨h1, h2, h3, h4, h5, h6⟩ := k
    refine ⟨⟨h.up, h.down, h.response⟩, ⟨h1, fun _ => ⟨by dsimp only; omega, (h2 hstarting).2⟩, fun hm => absurd hm hfew.1,
      ?_, ?_, h6⟩⟩
    all_goals simp [hstarting]

theorem loseMains_parts (r : Reserve) : (loseMains r).SharesSound ∧ (loseMains r).StateSound := by
  refine ⟨⟨le_rfl, le_rfl, ?_⟩, ⟨?_, ?_, ?_, ?_, ?_, ?_⟩⟩ <;> simp [loseMains]

theorem recoverPlausible_parts {w : WorkingCopy} {responds : Bool} {d : Int} {r : Reserve} (h : r.SharesSound)
    (k : r.StateSound) (hstate : r.state = .mainsLost) :
    (recoverPlausible w responds d r).SharesSound ∧ (recoverPlausible w responds d r).StateSound := by
  have hlength := joinThree_length d r.history
  obtain ⟨hhistory, hcount⟩ := k.lost hstate
  rw [if_pos (by omega)] at hlength
  unfold recoverPlausible
  split
  · exact measured_parts h.up h.down rfl (by dsimp only; omega)
  · obtain ⟨h1, -, -, -, -, h6⟩ := k
    refine ⟨⟨h.up, h.down, h.response⟩, ⟨h1, ?_, ?_, ?_, fun _ => ⟨by dsimp only; omega, by dsimp only; omega⟩, h6⟩⟩
    all_goals simp [hstate]

theorem recoverImplausible_parts {r : Reserve} (h : r.SharesSound) (k : r.StateSound)
    (hstate : r.state = .mainsLost) :
    (recoverImplausible r).SharesSound ∧ (recoverImplausible r).StateSound := by
  obtain ⟨h1, -, -, -, -, h6⟩ := k
  refine ⟨⟨h.up, h.down, h.response⟩, ⟨h1, ?_, ?_, ?_, ?_, h6⟩⟩ <;> simp [recoverImplausible, hstate]

/-- A judgement raises no offer and no share, and leaves the shortfall flags. -/
structure Reserve.JudgedFrom (before after : Reserve) : Prop where
  offerUp : after.offerUp ≤ before.offerUp
  offerDown : after.offerDown ≤ before.offerDown
  upShare : after.upShare ≤ before.upShare
  shortUp : after.shortUp = before.shortUp
  shortDown : after.shortDown = before.shortDown

theorem takePlausible_judgedFrom (w : WorkingCopy) (responds : Bool) (d : Int) (r : Reserve) :
    r.JudgedFrom (takePlausible w responds d r) := by
  unfold takePlausible
  split <;> exact ⟨le_rfl, le_rfl, le_rfl, rfl, rfl⟩

theorem recoverPlausible_judgedFrom (w : WorkingCopy) (responds : Bool) (d : Int) (r : Reserve) :
    r.JudgedFrom (recoverPlausible w responds d r) := by
  unfold recoverPlausible
  split <;> exact ⟨le_rfl, le_rfl, le_rfl, rfl, rfl⟩

/-- A measurement is judged in a station state in which measurements are taken, so the reserve state is free. -/
theorem State.Sound.judged {s : State} {r : Reserve} (h : s.Sound) (hactive : s.link.station.active = true)
    (parts : r.SharesSound ∧ r.StateSound) (hfrom : s.reserve.JudgedFrom r) : (s.setReserve r).Sound := by
  have hreserve : (s.setReserve r).ReserveSound := by
    refine State.ReserveSound.of_parts parts.1 parts.2 (fun hr => ?_) (fun hs => ?_)
      (fun hidle => absurd (hactive.symm.trans hidle) (by decide))
    · obtain ⟨hup, hdown, hshortUp, hshortDown⟩ := h.reserve.grounded hr
      exact ⟨Nat.le_zero.mp (hup ▸ hfrom.offerUp), Nat.le_zero.mp (hdown ▸ hfrom.offerDown),
        hfrom.shortUp.trans hshortUp, hfrom.shortDown.trans hshortDown⟩
    · exact Nat.le_zero.mp (h.reserve.shed hs ▸ hfrom.upShare)
  exact ⟨h.configured.of_same, h.memory.of_same, h.session.of_same, h.account.of_same, h.link.of_same,
    h.table.of_same, h.share.of_same, hreserve, h.composer.of_same⟩

/-- The measurement in progress, its timeout and the last frequency are read by no invariant. -/
theorem State.Sound.of_reserve {s : State} {r : Reserve} (h : s.Sound)
    (offerUp : r.offerUp = s.reserve.offerUp := by rfl) (offerDown : r.offerDown = s.reserve.offerDown := by rfl)
    (upShare : r.upShare = s.reserve.upShare := by rfl) (downShare : r.downShare = s.reserve.downShare := by rfl)
    (response : r.response = s.reserve.response := by rfl) (shortUp : r.shortUp = s.reserve.shortUp := by rfl)
    (shortDown : r.shortDown = s.reserve.shortDown := by rfl) (state : r.state = s.reserve.state := by rfl)
    (history : r.history = s.reserve.history := by rfl) (active : r.active = s.reserve.active := by rfl)
    (droop : r.droop = s.reserve.droop := by rfl)
    (recoveryCount : r.recoveryCount = s.reserve.recoveryCount := by rfl) : (s.setReserve r).Sound :=
  ⟨h.configured.of_same, h.memory.of_same, h.session.of_same, h.account.of_same, h.link.of_same, h.table.of_same,
    h.share.of_same, h.reserve.of_same offerUp offerDown upShare downShare response shortUp shortDown state history
      active droop recoveryCount, h.composer.of_same⟩

theorem judgedPlausible_sound {w : WorkingCopy} {d : Int} {s : State} (h : s.Sound)
    (hactive : s.link.station.active = true) : (judgedPlausible w d s).Sound := by
  have hshares := h.reserve.shares
  have hstates := h.reserve.states
  unfold judgedPlausible
  split
  · exact h
  · next hs => exact h.judged hactive (takePlausible_parts hshares hstates (.inl hs)) (takePlausible_judgedFrom ..)
  · next hs => exact h.judged hactive (takePlausible_parts hshares hstates (.inr hs)) (takePlausible_judgedFrom ..)
  · next hs => exact h.judged hactive (recoverPlausible_parts hshares hstates hs) (recoverPlausible_judgedFrom ..)

theorem takeImplausible_sound {s : State} (h : s.Sound) (hactive : s.link.station.active = true) :
    (takeImplausible s).Sound := by
  unfold takeImplausible
  split
  · exact raise_sound (h.judged hactive (loseMains_parts _)
      ⟨Nat.zero_le _, Nat.zero_le _, Nat.zero_le _, rfl, rfl⟩)
  · exact h.of_reserve

theorem judgedImplausible_sound {s : State} (h : s.Sound) (hactive : s.link.station.active = true) :
    (judgedImplausible s).Sound := by
  unfold judgedImplausible
  split
  · exact h
  · exact takeImplausible_sound h hactive
  · exact takeImplausible_sound h hactive
  · next hs =>
    exact h.judged hactive (recoverImplausible_parts h.reserve.shares h.reserve.states hs)
      ⟨le_rfl, le_rfl, le_rfl, rfl, rfl⟩

theorem judgeMeasurement_sound {w : WorkingCopy} {f : Option Nat} {s : State} (h : s.Sound)
    (hactive : s.link.station.active = true) : (judgeMeasurement w f s).Sound := by
  unfold judgeMeasurement
  split
  · exact judgedPlausible_sound h.of_reserve hactive
  · exact judgedImplausible_sound h.of_reserve hactive

theorem mainsEdgeTaken_sound {s : State} (h : s.Sound) : (mainsEdgeTaken s).Sound := by
  unfold mainsEdgeTaken
  split
  next w hw =>
    split
    · next hactive =>
      split
      · exact h.of_reserve
      · unfold countEdge
        split
        · exact judgeMeasurement_sound h.of_reserve hactive
        · exact h.of_reserve
    · exact h
  · exact h

theorem edgeTimedOut_sound {s : State} (h : s.Sound) : (edgeTimedOut s).Sound := by
  unfold edgeTimedOut
  split
  next w hw =>
    split
    · next hdue => exact judgeMeasurement_sound h.of_reserve (Bool.and_eq_true_iff.mp hdue).2
    · exact h
  · exact h

end Sys2Proof.Machine


/-! PROOFS. The tiers (5.5, 6.4): what each tier finds of the budget, what a post is granted, and the laws of the
grants. -/

namespace Sys2Proof.Machine

/-! ## The demands -/

/-- A post's two parts make up its claim, in two of the eight tiers (R95). -/
theorem tierParts_sum {c : Contribution} (h : c.held ≤ c.claim) :
    (tierOrder.map fun t => tierPart t c).sum = c.claim := by
  have hu : min c.urgency 3 ≤ 3 := Nat.min_le_right ..
  simp only [tierOrder, tierPart, List.map_cons, List.map_nil, List.sum_cons, List.sum_nil]
  generalize min c.urgency 3 = u at hu ⊢
  interval_cases u <;> simp <;> omega

/-- The eight demands sum to the claims (R95). -/
theorem tierDemands_sum {cs : List Contribution} (h : ∀ c ∈ cs, c.held ≤ c.claim) :
    (tierOrder.map fun t => tierDemand t cs).sum = (cs.map Contribution.claim).sum := by
  induction cs with
  | nil => rfl
  | cons c cs ih =>
    have hc := tierParts_sum (h c (by simp))
    have hrest := ih fun d hd => h d (by simp [hd])
    simp only [tierOrder, tierDemand, List.map_cons, List.map_nil, List.sum_cons, List.sum_nil] at hc hrest ⊢
    omega

theorem tierPart_le_demand {cs : List Contribution} {c : Contribution} (h : c ∈ cs) (t : Nat) :
    tierPart t c ≤ tierDemand t cs :=
  List.le_sum_of_mem (List.mem_map_of_mem h)

/-! ## Service in turn -/

/-- A tier leaves what its demand does not take: all that remains of it, or nothing (R107). -/
theorem serveTiers_cons (cs : List Contribution) (t : Nat) (rest : List Nat) (r : Nat) :
    serveTiers cs (t :: rest) r =
      { tier := t, demand := tierDemand t cs, available := r } :: serveTiers cs rest (r - tierDemand t cs) := by
  rw [serveTiers]
  split
  · rfl
  · rw [Nat.sub_eq_zero_of_le (by omega)]

theorem serveTiers_nil (cs : List Contribution) (r : Nat) : serveTiers cs [] r = [] := rfl

/-- What a tier finds of a budget: the demands of the tiers above it taken away. -/
def tierLeft (cs : List Contribution) (budget t : Nat) : Nat :=
  budget - ((tierOrder.filter fun above => decide (t < above)).map fun above => tierDemand above cs).sum

/-- The eight tiers as they are served (R107). -/
theorem serveTiers_tierOrder (cs : List Contribution) (budget : Nat) :
    serveTiers cs tierOrder budget = tierOrder.map fun t =>
      { tier := t, demand := tierDemand t cs, available := tierLeft cs budget t } := by
  simp [tierOrder, serveTiers_cons, serveTiers_nil, tierLeft, Nat.sub_sub, Nat.add_assoc]

/-! ## Grants -/

theorem grantOf_zero (v : TierService) : grantOf v 0 = 0 := by
  unfold grantOf
  split <;> simp

/-- No part is granted more than itself (R107). -/
theorem grantOf_le (v : TierService) (part : Nat) : grantOf v part ≤ part := by
  unfold grantOf
  split
  · exact le_rfl
  · refine Nat.div_le_of_le_mul ?_
    rw [Nat.mul_comm v.demand]
    exact Nat.mul_le_mul_left part (by omega)

/-- Quotients rounded down sum to no more than the quotient of the sum. -/
theorem sum_div_le {α : Type} (l : List α) (f : α → Nat) (d : Nat) :
    (l.map fun x => f x / d).sum ≤ (l.map f).sum / d := by
  induction l with
  | nil => simp
  | cons x l ih =>
    simp only [List.map_cons, List.sum_cons]
    exact (Nat.add_le_add_left ih _).trans (Nat.div_add_div_le_add_div ..)

/-- The grants of a tier sum to no more than it finds, and to no more than its demand (R107). -/
theorem tierGrants_le (cs : List Contribution) (t available : Nat) :
    (cs.map fun c => grantOf { tier := t, demand := tierDemand t cs, available := available } (tierPart t c)).sum
      ≤ min (tierDemand t cs) available := by
  by_cases hfits : tierDemand t cs ≤ available
  · have hwhole : (cs.map fun c =>
        grantOf { tier := t, demand := tierDemand t cs, available := available } (tierPart t c)).sum
          = tierDemand t cs := by
      simp only [grantOf, hfits, if_true]
      rfl
    omega
  · have hproportion : (cs.map fun c =>
        grantOf { tier := t, demand := tierDemand t cs, available := available } (tierPart t c)).sum
          ≤ tierDemand t cs * available / tierDemand t cs := by
      simp only [grantOf, hfits, if_false]
      refine (sum_div_le cs (fun c => tierPart t c * available) _).trans (le_of_eq ?_)
      rw [List.sum_map_mul_right]
      rfl
    rw [Nat.mul_div_cancel_left _ (by omega)] at hproportion
    omega

/-- The grants to all posts over some tiers sum to no more than the budget those tiers begin with (R107, R108). -/
theorem allowances_le (cs : List Contribution) (tiers : List Nat) (budget : Nat) :
    (cs.map (allowanceOf (serveTiers cs tiers budget))).sum ≤ budget := by
  induction tiers generalizing budget with
  | nil =>
    have hnone : allowanceOf [] = fun _ => 0 := rfl
    simp [serveTiers_nil, hnone]
  | cons t tiers ih =>
    have hfirst := tierGrants_le cs t budget
    have hrest := ih (budget - tierDemand t cs)
    have hsplit : (cs.map (allowanceOf (serveTiers cs (t :: tiers) budget))).sum =
        (cs.map fun c => grantOf { tier := t, demand := tierDemand t cs, available := budget } (tierPart t c)).sum
          + (cs.map (allowanceOf (serveTiers cs tiers (budget - tierDemand t cs)))).sum := by
      rw [serveTiers_cons, ← List.sum_map_add]
      rfl
    omega

/-- A post of the view is granted no more than the budget. -/
theorem allowanceOf_le_budget {cs : List Contribution} {c : Contribution} (h : c ∈ cs) (budget : Nat) :
    allowanceOf (serveTiers cs tierOrder budget) c ≤ budget :=
  (List.le_sum_of_mem (List.mem_map_of_mem h)).trans (allowances_le cs tierOrder budget)

/-- No post is granted more than its claim (R108). -/
theorem allowanceOf_le_claim {c : Contribution} (h : c.held ≤ c.claim) (cs : List Contribution) (budget : Nat) :
    allowanceOf (serveTiers cs tierOrder budget) c ≤ c.claim := by
  rw [serveTiers_tierOrder, ← tierParts_sum h, allowanceOf, List.map_map]
  exact List.sum_le_sum fun t _ => grantOf_le ..

/-- What a tier that is served with `left` of the budget grants to a part (R107). -/
def grantAt (cs : List Contribution) (budget t part : Nat) : Nat :=
  grantOf { tier := t, demand := tierDemand t cs, available := tierLeft cs budget t } part

/-- A post's allowance is the grants to its two parts, in its two tiers (R108). -/
theorem allowanceOf_eq (cs : List Contribution) (budget : Nat) (c : Contribution) :
    allowanceOf (serveTiers cs tierOrder budget) c =
      grantAt cs budget (2 * min c.urgency 3 + 1) c.held
        + grantAt cs budget (2 * min c.urgency 3) (c.claim - c.held) := by
  have hu : min c.urgency 3 ≤ 3 := Nat.min_le_right ..
  have hsum : allowanceOf (serveTiers cs tierOrder budget) c =
      (tierOrder.map fun t => grantAt cs budget t (tierPart t c)).sum := by
    rw [serveTiers_tierOrder, allowanceOf, List.map_map]
    rfl
  have hzero : ∀ t, grantAt cs budget t 0 = 0 := fun _ => grantOf_zero _
  rw [hsum]
  simp only [tierOrder, tierPart, List.map_cons, List.map_nil, List.sum_cons, List.sum_nil]
  generalize min c.urgency 3 = u at hu ⊢
  interval_cases u <;> simp [hzero, Nat.add_comm]

/-- The allocation is contested when some tier's demand exceeds what it finds (R107). -/
theorem contestedOf_eq (cs : List Contribution) (budget : Nat) :
    contestedOf (serveTiers cs tierOrder budget) =
      tierOrder.any fun t => decide (tierLeft cs budget t < tierDemand t cs) := by
  rw [serveTiers_tierOrder, contestedOf, List.any_map]
  rfl

/-- A budget that covers the demands of a tier and of those above it serves the tier whole. -/
theorem tierLeft_covers {cs : List Contribution} {budget t : Nat} (ht : t ∈ tierOrder)
    (h : (tierOrder.map fun t => tierDemand t cs).sum ≤ budget) : tierDemand t cs ≤ tierLeft cs budget t := by
  simp only [tierOrder, List.map_cons, List.map_nil, List.sum_cons, List.sum_nil] at h
  simp only [tierOrder, List.mem_cons, List.not_mem_nil, or_false] at ht
  rcases ht with rfl | rfl | rfl | rfl | rfl | rfl | rfl | rfl <;> simp [tierLeft, tierOrder] <;> omega

/-- The lower a tier, the more stands above it. -/
theorem tiersAbove_le (cs : List Contribution) {t u : Nat} (h : t ≤ u) :
    ((tierOrder.filter fun above => decide (u < above)).map fun above => tierDemand above cs).sum
      ≤ ((tierOrder.filter fun above => decide (t < above)).map fun above => tierDemand above cs).sum := by
  refine List.Sublist.sum_le_sum (List.Sublist.map _ (List.monotone_filter_right _ fun above habove => ?_))
    fun _ _ => Nat.zero_le _
  simp only [decide_eq_true_eq] at habove ⊢
  omega

/-- A tier that finds nothing grants nothing to a post of the view. -/
theorem grantAt_exhausted {cs : List Contribution} {budget t part : Nat} (hleft : tierLeft cs budget t = 0)
    (hpart : part ≤ tierDemand t cs) : grantAt cs budget t part = 0 := by
  simp only [grantAt, grantOf, hleft]
  split
  · omega
  · simp

/-- Settles O40: each tier finds the budget less the demands above it, and grants no more than that. -/
theorem tiersShareTheBudget : Obligations.TiersShareTheBudget := by
  intro cs budget demand left granted hheld hdemand hleft hgranted
  have hdemands : ∀ t, tierDemand t cs = demand t := fun t => (hdemand t).symm
  have hlefts : ∀ t, tierLeft cs budget t = left t := fun t => by
    rw [hleft, tierLeft]
    simp only [hdemands]
  have hgrants : ∀ t part, grantAt cs budget t part = granted t part := fun t part => by
    rw [hgranted, grantAt, grantOf, hdemands, hlefts]
  have htier : ∀ c : Contribution, 2 * min c.urgency 3 ∈ tierOrder ∧ 2 * min c.urgency 3 + 1 ∈ tierOrder := by
    intro c
    have hu : min c.urgency 3 ≤ 3 := Nat.min_le_right ..
    generalize min c.urgency 3 = u at hu ⊢
    interval_cases u <;> decide
  refine ⟨rfl, hdemands, fun c _ => ?_, ?_, tierDemands_sum hheld, allowances_le cs tierOrder budget,
    fun c hc => allowanceOf_le_claim (hheld c hc) cs budget, fun hcovers => ?_, fun c hc hexhausted => ?_⟩
  · rw [allowanceOf_eq, hgrants, hgrants]
  · simp only [contestedOf_eq, hdemands, hlefts]
  · rw [← tierDemands_sum hheld] at hcovers
    have hfits : ∀ t ∈ tierOrder, tierDemand t cs ≤ tierLeft cs budget t := fun t ht => tierLeft_covers ht hcovers
    refine ⟨?_, fun c hc => ?_⟩
    · rw [contestedOf_eq, List.any_eq_false]
      intro t ht
      simpa using hfits t ht
    · rw [allowanceOf_eq, grantAt, grantAt, grantOf, grantOf, if_pos (hfits _ (htier c).2), if_pos (hfits _ (htier c).1)]
      have := hheld c hc
      omega
  · have habove : ∀ t ≤ 2 * min c.urgency 3 + 1, tierLeft cs budget t = 0 := fun t ht =>
      Nat.sub_eq_zero_of_le (hexhausted.trans (tiersAbove_le cs ht))
    rw [allowanceOf_eq, grantAt_exhausted (habove _ le_rfl), grantAt_exhausted (habove _ (Nat.le_succ _))]
    · exact (by simp [tierPart] : tierPart (2 * min c.urgency 3) c = c.claim - c.held) ▸ tierPart_le_demand hc _
    · exact (by simp [tierPart] : tierPart (2 * min c.urgency 3 + 1) c = c.held) ▸ tierPart_le_demand hc _

end Sys2Proof.Machine


/-! PROOFS. The depot link's commands keep every invariant: allocations, sheds, station states, the link's timers, its
transmissions and receptions, and the peer table. -/

namespace Sys2Proof.Machine

/-! ## Allocations -/

/-- What the tenure update leaves of a share engine, for any allowance (R111 to R113). -/
theorem updateTenure_sound {w : WorkingCopy} {alone contested : Bool} {interval a : Nat} {sh : Share}
    (hoff : sh.tenure = false → sh.held = 0) :
    (updateTenure w alone contested interval a sh).allowance = a
      ∧ (updateTenure w alone contested interval a sh).held ≤ a
      ∧ ((updateTenure w alone contested interval a sh).tenure = false →
          (updateTenure w alone contested interval a sh).held = 0)
      ∧ ((updateTenure w alone contested interval a sh).tenure = true →
          1 ≤ (updateTenure w alone contested interval a sh).held) := by
  unfold updateTenure
  split
  · simp [endTenure]
  split
  · next hon =>
    split
    · simp [endTenure]
    · rw [setAllowance_eq]
      refine ⟨rfl, Nat.min_le_right .., fun hend => ?_, fun hgo => ?_⟩
      · simp only [hon, Bool.true_and, decide_eq_false_iff_not] at hend
        exact not_not.mp hend
      · simp only [hon, Bool.true_and, decide_eq_true_eq] at hgo
        exact Nat.one_le_iff_ne_zero.mpr hgo
  split
  · next hstart =>
    simp only [Bool.true_eq_false, false_implies, le_refl, true_and, forall_const]
    omega
  · next hoff' _ =>
    have hheld := hoff (by simpa using hoff')
    rw [setAllowance_eq]
    simp [hheld]

/-- The tenure update leaves shed-hold, the overload count and the allocation's own items alone. -/
theorem updateTenure_frame (w : WorkingCopy) (alone contested : Bool) (interval a : Nat) (sh : Share) :
    (updateTenure w alone contested interval a sh).shedHold = sh.shedHold
      ∧ (updateTenure w alone contested interval a sh).shedTimer = sh.shedTimer
      ∧ (updateTenure w alone contested interval a sh).shedCap = sh.shedCap
      ∧ (updateTenure w alone contested interval a sh).overloadCount = sh.overloadCount
      ∧ (updateTenure w alone contested interval a sh).shedding = sh.shedding := by
  unfold updateTenure
  repeat' split
  all_goals simp [setAllowance_eq, endTenure]

theorem ownContribution_held {s : State} (h : s.ShareSound) : s.ownContribution.held ≤ s.ownContribution.claim := by
  unfold State.ownContribution
  split
  · exact h.held.trans h.withinClaim
  · exact le_rfl

/-- The island allowance lies within the budget of an allocation with no meter heard (R106, R110). -/
theorem islandAllowance_le_budget {s : State} {w : WorkingCopy} (h : 1 ≤ w.isldiv) (halone : s.peers.alone = true)
    (claim : Nat) : islandAllowance w claim ≤ (s.budgetNow w).budget := by
  have hbudget : (s.budgetNow w).budget = ((w.fcap : Int) - w.site - guardOf w - w.upcommit).toNat := by
    simp [State.budgetNow, State.meterHeard, halone, budgetOf, headroomOf, siteLoadOf]
  have hdiv : (((w.fcap : Int) - w.site - guardOf w - w.upcommit) / (w.isldiv : Int)).toNat
      ≤ ((w.fcap : Int) - w.site - guardOf w - w.upcommit).toNat := by
    generalize (w.fcap : Int) - w.site - guardOf w - w.upcommit = room
    rcases le_or_gt 0 room with hroom | hroom
    · exact Int.toNat_le_toNat (Int.ediv_le_self _ hroom)
    · have hneg : room / (w.isldiv : Int) < 0 := Int.ediv_neg_of_neg_of_pos hroom (by omega)
      omega
  rw [hbudget]
  exact (Nat.min_le_right ..).trans hdiv

/-- What an allocation computes lies within the claim and within the budget (R108, R110). -/
theorem computedAllowance_le {s : State} {w : WorkingCopy} (h : s.ShareSound) (hpost : s.isPost = true)
    (hw : 1 ≤ w.isldiv) :
    s.computedAllowance w ≤ s.tracker.claim ∧ s.computedAllowance w ≤ (s.budgetNow w).budget
      ∧ (s.peers.alone = true → s.computedAllowance w = islandAllowance w s.tracker.claim) := by
  cases halone : s.peers.alone with
  | true =>
    have hcomputed : s.computedAllowance w = islandAllowance w s.tracker.claim := by
      simp [State.computedAllowance, halone]
    rw [hcomputed]
    exact ⟨Nat.min_le_left .., islandAllowance_le_budget hw halone _, fun _ => rfl⟩
  | false =>
    have hcomputed : s.computedAllowance w = allowanceOf (s.tiersNow w) s.ownContribution := by
      simp [State.computedAllowance, halone]
    have hclaim : s.ownContribution.claim = s.tracker.claim := by simp [State.ownContribution, hpost]
    rw [hcomputed]
    refine ⟨hclaim ▸ allowanceOf_le_claim (ownContribution_held h) _ _, allowanceOf_le_budget ?_ _, by simp⟩
    exact List.mem_cons_self

theorem capped_le (sh : Share) (n : Nat) : capped sh n ≤ n ∧ (sh.shedHold = true → capped sh n ≤ sh.shedCap) := by
  unfold capped
  split
  · exact ⟨Nat.min_le_left .., fun _ => Nat.min_le_right ..⟩
  · next hoff => exact ⟨le_rfl, fun hon => absurd hon hoff⟩

/-- An allocation of a post in RUNNING keeps the share engine sound (R103, R109). -/
theorem allocated_shareSound {s : State} {w : WorkingCopy} (h : s.ShareSound) (hw : s.store.working = some w)
    (hrole : w.role = .post) (hrun : s.link.station = .running) (hisldiv : 1 ≤ w.isldiv) :
    (s.setShare (s.allocated w)).ShareSound := by
  have hpost := isPost_of_role hw hrole
  have hresponds : s.responds = true := by simp [State.responds, hpost, hrun]
  obtain ⟨hclaim, hbudget, hisland⟩ := computedAllowance_le (w := w) h hpost hisldiv
  obtain ⟨hcap, hshed⟩ := capped_le s.share (s.computedAllowance w)
  obtain ⟨ha, hh, hoff, hon⟩ := updateTenure_sound (w := w) (alone := s.peers.alone) (contested := s.contestedNow w)
    (interval := s.allocationInterval) (a := capped s.share (s.computedAllowance w)) h.tenureOff
  obtain ⟨h1, h2, h3, h4, h5⟩ := updateTenure_frame w s.peers.alone (s.contestedNow w) s.allocationInterval
    (capped s.share (s.computedAllowance w)) s.share
  constructor <;> simp only [State.setShare_share, State.setShare_tracker, State.setShare_peers,
    State.setShare_store, State.allocated, ha, h1, h2, h3, h4, h5, Option.elim]
  case withinClaim => omega
  case withinBudget => omega
  case withinIsland =>
    intro halone v hv
    obtain rfl : w = v := Option.some.inj (hw.symm.trans hv)
    rw [← hisland halone]
    exact hcap
  case grounded => exact fun hr => absurd (hresponds.symm.trans hr) (by decide)
  case post => exact fun hp => absurd (hpost.symm.trans hp) (by decide)
  exacts [hh, hoff, hon, hshed, h.shedTimer, h.meter, h.overload]

theorem allocateShare_shareSound {s : State} (h : s.ShareSound) (hc : s.Configured)
    (hrun : s.link.station = .running) : (allocateShare s).ShareSound := by
  unfold allocateShare
  split
  next w hw =>
    split
    · next hrole =>
      exact allocated_shareSound h hw hrole hrun (hc.range w hw).isldiv.1
    · exact h
  · exact h

theorem allocateShare_shedHold (s : State) : (allocateShare s).share.shedHold = s.share.shedHold := by
  unfold allocateShare
  repeat' split
  · exact (updateTenure_frame ..).1
  all_goals rfl

/-- An allocation in RUNNING keeps every invariant (R75, R125). -/
theorem allocationEvent_sound {s : State} (h : s.Sound) (hrun : s.link.station = .running) :
    (allocationEvent s).Sound where
  configured := h.configured.of_same
  memory := h.memory.of_same
  session := h.session.of_same
  account := h.account.of_same
  link := h.link.of_same
  table := h.table.of_same
  share := allocateShare_shareSound (h.share.of_same) (h.configured.of_same) (by simpa using hrun)
  reserve := (allocateReserve_reserveSound h.reserve).of_same (by simp [allocationEvent]) (by simp [allocationEvent])
    (by simp [allocationEvent]) (by simp [allocationEvent]) (by simp [allocationEvent]) (by simp [allocationEvent])
    (by simp [allocationEvent]) (by simp [allocationEvent]) (by simp [allocationEvent]) (by simp [allocationEvent])
    (by simp [allocationEvent]) (by simp [allocationEvent]) (allocateShare_shedHold _)
  composer := h.composer.of_same

/-! ## The passing of time -/

theorem runDown_isSome (n : Nat) (timer : Option Nat) : (runDown n timer).isSome = timer.isSome := by
  simp [runDown]

/-- While time passes a receiver goes deaf at most. -/
theorem receiverAfter_cases (n : Nat) (k : Link) :
    k.receiverAfter n = k.receiver ∨ ∃ quiet, k.receiverAfter n = .deaf quiet := by
  unfold Link.receiverAfter
  repeat' split
  all_goals simp_all

theorem elapse_linkSound {n : Nat} {s : State} (h : s.LinkSound) : (s.elapse n).LinkSound := by
  have htimer : runDown n s.link.announceTimer = none ↔ s.link.announceTimer = none := by simp [runDown]
  have hmeter : (s.elapse n).isMeter = s.isMeter := isMeter_of_same (by simp)
  constructor <;> simp only [elapse_link, runDown_isSome, htimer, hmeter]
  case driving =>
    intro ht
    obtain ⟨hidle, hhears⟩ := h.driving ht
    refine ⟨by rw [if_neg (Option.ne_none_iff_isSome.mpr ht)]; exact hidle, ?_⟩
    rcases receiverAfter_cases n s.link with hr | ⟨quiet, hr⟩ <;> rw [hr]
    · exact hhears
    · exact Receiver.noConfusion
  case ending =>
    intro he
    rcases receiverAfter_cases n s.link with hr | ⟨quiet, hr⟩
    · exact h.ending (hr ▸ he)
    · exact absurd (hr.symm.trans he) Receiver.noConfusion
  exacts [h.listenTimer, h.quiet, h.announcing, h.sendingAnnounce, h.sendingShed, h.announceAttempts,
    h.shedAttempts, h.shedBehind, h.meter]

theorem elapse_tableSound {n : Nat} {s : State} (h : s.TableSound) : (s.elapse n).TableSound := by
  have hsilent : (s.elapse n).silentTime = s.silentTime := by simp [State.silentTime]
  have hnumber : (s.elapse n).stationNumber = s.stationNumber := by simp [State.stationNumber]
  have hentries : (s.elapse n).peers.entries = s.peers.entries.map (Peer.older n s.silentTime) := rfl
  have halone : (s.elapse n).peers.alone = s.peers.alone := rfl
  have hstation : (s.elapse n).link.station = s.link.station := rfl
  constructor <;>
    simp only [hentries, halone, hstation, hsilent, hnumber, List.pairwise_map, List.forall_mem_map, List.map_eq_nil_iff]
  case age =>
    intro p hp
    have hage := h.age p hp
    simp only [Peer.older]
    omega
  exacts [h.rising, h.range, h.foreign, h.sanitised, h.idle, h.alone]

theorem elapse_composerSound {n : Nat} {s : State} (h : s.ComposerSound) : (s.elapse n).ComposerSound := by
  obtain ⟨h1, h2, h3, h4, h5, h6, h7, h8, h9, h10, h11, h12, h13⟩ := h
  refine ⟨h1, h2, h3, h4, h5, h6, h7, ?_, ?_, h10, h11, h12, h13⟩
  · refine Eq.trans ?_ h8
    simp [State.elapse, State.countDown]
  · intro e he
    obtain ⟨e', he', rfl⟩ : ∃ e', s.composer.wakeTimer = some e' ∧ min (e' + n) (max e' wakeLimit) = e := by
      simpa [State.elapse, State.countDown] using he
    have := h9 e' he'
    omega

/-- While time passes every invariant holds (R2, R87). -/
theorem elapse_sound {n : Nat} {s : State} (h : s.Sound) : (s.elapse n).Sound where
  configured := h.configured.of_same (station := rfl)
  memory := h.memory.of_same
  session := h.session.of_same rfl rfl rfl (runDown_isSome ..) (runDown_isSome ..) rfl rfl rfl rfl (runDown_isSome ..)
    rfl rfl rfl rfl
  account := h.account.of_same (by simp) rfl rfl rfl rfl
  link := elapse_linkSound h.link
  table := elapse_tableSound h.table
  share := by
    obtain ⟨h1, h2, h3, h4, h5, h6, h7, h8, h9, h10, h11, h12⟩ := h.share
    exact ⟨h1, h2, h3, h4, h5, h6, h7, h8, (runDown_isSome ..).trans h9, h10, h11, h12⟩
  reserve := h.reserve.of_same rfl rfl rfl rfl rfl rfl rfl rfl rfl rfl rfl rfl rfl rfl
  composer := elapse_composerSound h.composer

/-! ## ALONE -/

/-- What R85 states of the entries, whether or not ALONE holds. -/
structure State.EntriesSound (s : State) : Prop where
  rising : s.peers.entries.Pairwise fun p q => p.station < q.station
  range : ∀ p ∈ s.peers.entries, 1 ≤ p.station ∧ p.station ≤ 32
  foreign : ∀ p ∈ s.peers.entries, p.station ≠ s.stationNumber
  sanitised : ∀ p ∈ s.peers.entries, p.held ≤ p.claim
  age : ∀ p ∈ s.peers.entries, p.age ≤ s.silentTime
  idle : s.link.station.active = false → s.peers.entries = []

theorem State.TableSound.entries {s : State} (h : s.TableSound) : s.EntriesSound :=
  ⟨h.rising, h.range, h.foreign, h.sanitised, h.age, h.idle⟩

theorem State.EntriesSound.table {s t : State} (h : s.EntriesSound) (entries : t.peers.entries = s.peers.entries)
    (working : t.store.working = s.store.working) (station : t.link.station = s.link.station)
    (alone : t.peers.alone = true ↔ t.link.station = .running ∧ t.peers.entries = []) : t.TableSound := by
  have number : t.stationNumber = s.stationNumber := by simp [State.stationNumber, working]
  have silent : t.silentTime = s.silentTime := by simp [State.silentTime, working]
  constructor
  case alone => exact alone
  all_goals simp only [entries, station, number, silent]
  exacts [h.rising, h.range, h.foreign, h.sanitised, h.age, h.idle]

/-- The entry to ALONE lowers the allowance to the island's and ends tenure (R117). -/
theorem shareAlone_shareSound {s t : State} {w : WorkingCopy} (h : s.ShareSound) (hw : s.store.working = some w)
    (share : t.share = shareAlone w s.tracker.claim s.share) (tracker : t.tracker = s.tracker)
    (store : t.store = s.store) (link : t.link = s.link) : t.ShareSound := by
  have post := isPost_of_same (s := s) (t := t) (by rw [store])
  have meter := isMeter_of_same (s := s) (t := t) (by rw [store])
  have responds := responds_of_same (s := s) (t := t) (by rw [store]) (by rw [link])
  have hle : min s.share.allowance (islandAllowance w s.tracker.claim) ≤ s.share.allowance := Nat.min_le_left ..
  constructor <;> simp only [share, tracker, store, post, meter, responds, shareAlone, endTenure]
  case withinClaim => exact hle.trans h.withinClaim
  case withinBudget => exact hle.trans h.withinBudget
  case withinIsland =>
    intro _ v hv
    obtain rfl : w = v := Option.some.inj (hw.symm.trans hv)
    exact Nat.min_le_right ..
  case grounded =>
    intro hr
    obtain ⟨h1, -, h3, -⟩ := h.grounded hr
    exact ⟨Nat.le_zero.mp (h1 ▸ hle), trivial, h3, trivial⟩
  case capped => exact fun hon => hle.trans (h.capped hon)
  case tenureOn => exact fun hon => absurd hon (by decide)
  exacts [Nat.zero_le _, fun _ => trivial, h.shedTimer, h.meter, h.overload, h.post]

/-- A share engine that does not respond grants nothing, so ALONE asks nothing of it. -/
theorem State.ShareSound.aloneGrounded {s t : State} (h : s.ShareSound) (hr : s.responds = false)
    (share : t.share = s.share := by simp) (tracker : t.tracker = s.tracker := by simp)
    (store : t.store = s.store := by simp) (link : t.link = s.link := by simp) : t.ShareSound := by
  have post := isPost_of_same (s := s) (t := t) (by rw [store])
  have meter := isMeter_of_same (s := s) (t := t) (by rw [store])
  have responds := responds_of_same (s := s) (t := t) (by rw [store]) (by rw [link])
  constructor <;> simp only [share, tracker, store, post, meter, responds]
  case withinIsland => exact fun _ _ _ => (h.grounded hr).1 ▸ Nat.zero_le _
  exacts [h.withinClaim, h.withinBudget, h.held, h.tenureOff, h.tenureOn, h.grounded, h.capped, h.shedTimer, h.meter,
    h.overload, h.post]

theorem isPost_of_meter_role {s : State} {w : WorkingCopy} (hw : s.store.working = some w) (hrole : w.role ≠ .post) :
    s.isPost = false := isPost_of_isMeter (isMeter_of_role hw hrole)

/-- A part whose table has changed, before ALONE is decided: ALONE does not hold yet (R92). -/
structure State.Undecided (s : State) : Prop where
  configured : s.Configured
  memory : s.MemoryCanonical
  session : s.SessionSound
  account : s.AccountSound
  link : s.LinkSound
  entries : s.EntriesSound
  notAlone : s.peers.alone = false
  share : s.ShareSound
  reserve : s.ReserveSound
  composer : s.ComposerSound

theorem reserveAlone_reserveSound {s : State} {w : WorkingCopy} (h : s.ReserveSound) :
    (s.setReserve (reserveAlone w s.reserve)).ReserveSound := by
  obtain ⟨hshares, hstates⟩ := reserveAlone_parts (w := w) h.shares h.states
  refine State.ReserveSound.of_parts hshares hstates h.grounded (fun hs => ?_) h.idle
  exact Nat.le_zero.mp (h.shed hs ▸ Nat.min_le_left ..)

/-- The entry to ALONE of a table that is empty in RUNNING (R92, R117, R144). -/
theorem enterAlone_sound {s : State} (h : s.Undecided) (hrun : s.link.station = .running)
    (hempty : s.peers.entries = []) : (enterAlone s).Sound := by
  obtain ⟨w, hw⟩ : ∃ w, s.store.working = some w :=
    Option.isSome_iff_exists.mp (by rw [h.configured.exists_, hrun]; rfl)
  simp only [enterAlone, hw]
  split
  · refine raise_sound ⟨h.configured.of_same, h.memory.of_same, h.session.of_same, h.account.of_same, h.link.of_same,
      h.entries.table rfl rfl rfl (by simp [hrun, hempty]), shareAlone_shareSound h.share hw rfl rfl rfl rfl,
      (reserveAlone_reserveSound (w := w) h.reserve).of_same (shedHold := rfl), h.composer.of_same⟩
  · next hrole =>
    have hground : s.responds = false := by simp [State.responds, isPost_of_meter_role hw hrole]
    exact raise_sound ⟨h.configured.of_same, h.memory.of_same, h.session.of_same, h.account.of_same, h.link.of_same,
      h.entries.table rfl rfl rfl (by simp [hrun, hempty]), h.share.aloneGrounded hground, h.reserve.of_same,
      h.composer.of_same⟩

theorem decideAlone_sound {s : State} (h : s.Undecided) : (decideAlone s).Sound := by
  unfold decideAlone
  split
  · next hboth => exact enterAlone_sound h hboth.1 hboth.2
  · next hnot =>
    exact ⟨h.configured, h.memory, h.session, h.account, h.link,
      h.entries.table rfl rfl rfl (by simp [h.notAlone, hnot]), h.share, h.reserve, h.composer⟩

/-! ## Sheds -/

/-- Shed-hold starts with a cap that the allowance lies within (R122, R123). -/
theorem State.ShareSound.startShedHold {s t : State} {w : WorkingCopy} {cap : Nat} (h : s.ShareSound)
    (hcap : s.share.allowance ≤ cap) (share : t.share = startShedHold w cap s.share)
    (tracker : t.tracker = s.tracker := by simp) (peers : t.peers = s.peers := by simp)
    (store : t.store = s.store := by simp) (link : t.link = s.link := by simp) : t.ShareSound := by
  have post := isPost_of_same (s := s) (t := t) (by rw [store])
  have meter := isMeter_of_same (s := s) (t := t) (by rw [store])
  have responds := responds_of_same (s := s) (t := t) (by rw [store]) (by rw [link])
  constructor <;> simp only [share, tracker, peers, store, post, meter, responds, Machine.startShedHold]
  exacts [h.withinClaim, h.withinBudget, h.withinIsland, h.held, h.tenureOff, h.tenureOn, h.grounded, fun _ => hcap,
    rfl, h.meter, h.overload, h.post]

theorem shedCut_le (a fraction : Nat) : shedCut a fraction ≤ a := by
  unfold shedCut
  refine Nat.div_le_of_le_mul ?_
  rw [Nat.mul_comm 1024]
  exact Nat.mul_le_mul_left a (by omega)

/-- A unit that has given up its up share may let shed-hold run (R145). -/
theorem reserveShed_reserveSound {s t : State} (h : s.ReserveSound) (reserve : t.reserve = reserveShed s.reserve)
    (station : t.link.station = s.link.station) (working : t.store.working = s.store.working) :
    t.ReserveSound := by
  obtain ⟨hshares, hstates⟩ := reserveShed_parts h.shares h.states
  have responds := responds_of_same working station
  rw [← reserve] at hshares hstates
  refine State.ReserveSound.of_parts hshares hstates ?_ (fun _ => ?_) ?_
  · rw [responds, reserve]
    exact h.grounded
  · rw [reserve]
    rfl
  · rw [station, reserve]
    exact h.idle

theorem takeShed_sound {w : WorkingCopy} {fraction : Nat} {s : State} (h : s.Sound)
    (hrun : s.link.station = .listening ∨ s.link.station = .running) : (takeShed w fraction s).Sound := by
  unfold takeShed
  split
  · exact raise_sound h
  split
  · have hcut : (s.setShare (setAllowance (shedCut s.share.allowance fraction) s.share)).ShareSound :=
      h.share.lowered (shedCut_le ..) ((shedCut_le ..).trans h.share.withinClaim) rfl
    refine raise_sound ⟨h.configured.of_same, h.memory.of_same, h.session.of_same, h.account.of_same, h.link.of_same,
      h.table.of_same, hcut.startShedHold (le_of_eq ?_) rfl, reserveShed_reserveSound h.reserve rfl rfl rfl, ?_⟩
    · rw [State.setShare_share, setAllowance_allowance]
    · obtain ⟨h1, h2, h3, h4, h5, h6, h7, h8, h9, h10, h11, h12, h13⟩ := h.composer
      refine ⟨h1, h2, h3, h4, h5, h6, h7, h8, h9, h10, h11, fun hidle => ?_, h13⟩
      obtain ⟨e1, e2, e3, e4, e5⟩ := h12 hidle
      exact ⟨e1, e2, e3, e4, Nat.le_zero.mp (e5 ▸ Nat.min_le_left ..)⟩
  · next hnot =>
    have hground : s.responds = false := by simp [State.responds, hrun.resolve_right hnot]
    exact raise_sound ⟨h.configured.of_same, h.memory.of_same, h.session.of_same, h.account.of_same, h.link.of_same,
      h.table.of_same, h.share.startShedHold (le_of_eq (h.share.grounded hground).1) rfl,
      reserveShed_reserveSound h.reserve rfl rfl rfl, h.composer.of_same⟩

theorem shedHoldExpired_sound {s : State} (h : s.Sound) : (shedHoldExpired s).Sound := by
  unfold shedHoldExpired
  split
  · have hshare : (endShedHold s).ShareSound := by
      obtain ⟨h1, h2, h3, h4, h5, h6, h7, -, -, h10, h11, h12⟩ := h.share
      exact ⟨h1, h2, h3, h4, h5, h6, h7, fun hon => absurd hon Bool.false_ne_true, rfl, h10, h11, h12⟩
    have hreserve : (endShedHold s).ReserveSound :=
      State.ReserveSound.of_parts h.reserve.shares h.reserve.states h.reserve.grounded
        (fun hon => absurd hon Bool.false_ne_true) h.reserve.idle
    exact ⟨h.configured.of_same, h.memory.of_same, h.session.of_same, h.account.of_same, h.link.of_same,
      h.table.of_same, hshare, hreserve, h.composer.of_same⟩
  · exact h

/-! ## Station states -/

/-- A link controller outside RUNNING with nothing in hand (R67, R79). -/
theorem quiet_linkSound {s : State} (listenTimer : s.link.listenTimer.isSome = (s.link.station == .listening))
    (station : s.link.station ≠ .running) (announceTimer : s.link.announceTimer = none)
    (announceHand : s.link.announceHand = none) (shedHand : s.link.shedHand = none)
    (shedBehind : s.link.shedBehind = none) (transmitting : s.link.transmitting = none)
    (receiver : s.link.receiver ≠ .ending) : s.LinkSound := by
  constructor
  case listenTimer => exact listenTimer
  all_goals simp [station, announceTimer, announceHand, shedHand, shedBehind, transmitting, receiver]

/-- A share engine that has left RUNNING (R116, R121). -/
theorem leaveRunningShare_shareSound {t : State} {sh : Share} (share : t.share = leaveRunningShare sh)
    (alone : t.peers.alone = false) (timer : sh.shedTimer.isSome = sh.shedHold)
    (post : t.isPost = false → sh.lastAllocation = none) : t.ShareSound := by
  constructor <;> simp only [share, alone, leaveRunningShare, endTenure]
  case shedTimer => exact timer
  case post => exact post
  all_goals simp

/-- A reserve unit that has left RUNNING keeps its reserve state (R147). -/
theorem leaveRunningReserve_reserveSound {s t : State} (h : s.ReserveSound)
    (reserve : t.reserve = leaveRunningReserve s.reserve)
    (idle : t.link.station.active = false → s.reserve.state = .starting) : t.ReserveSound := by
  obtain ⟨hshares, hstates⟩ := leaveRunningReserve_parts h.states
  rw [← reserve] at hshares hstates
  refine State.ReserveSound.of_parts hshares hstates (fun _ => ?_) (fun _ => ?_) ?_
  all_goals rw [reserve]
  exacts [⟨rfl, rfl, rfl, rfl⟩, rfl, idle]

theorem stopDriving_cases (k : Link) :
    k.stopDriving.transmitting = none ∧ (k.stopDriving = k ∨ k.stopDriving.receiver = .deaf 0) := by
  unfold Link.stopDriving
  split
  · next h => exact ⟨h, .inl rfl⟩
  · exact ⟨rfl, .inr rfl⟩

/-- A clash leaves a sound part in CLASH (R79). -/
theorem enterClash_sound {s : State} (h : s.Sound) (hactive : s.link.station.active = true) : (enterClash s).Sound := by
  have hlink : (enterClash s).LinkSound := by
    refine quiet_linkSound rfl (by simp [enterClash, Link.clash]) rfl rfl rfl rfl (stopDriving_cases s.link).1 ?_
    have hreceiver : s.link.stopDriving.receiver ≠ .ending := by
      rcases stopDriving_cases s.link with ⟨hnone, hsame | hdeaf⟩
      · intro he
        rw [hsame] at he hnone
        exact absurd (h.link.ending he) (by simp [hnone])
      · simp [hdeaf]
    exact hreceiver
  have hshare : (enterClash s).ShareSound :=
    leaveRunningShare_shareSound rfl rfl h.share.shedTimer h.share.post
  have hstation : (enterClash s).link.station = .clash := rfl
  have hsame : (enterClash s).link.station.active = s.link.station.active := by rw [hstation, hactive]; rfl
  refine ⟨⟨h.configured.exists_.trans hsame.symm, h.configured.range⟩, h.memory.of_same, h.session.of_same,
    h.account.of_same, hlink, ?_, hshare,
    leaveRunningReserve_reserveSound h.reserve rfl fun hidle => absurd hidle (by simp [hstation, Station.active]),
    h.composer.of_same (station := hsame)⟩
  obtain ⟨h1, h2, h3, h4, h5, h6, -⟩ := h.table
  exact ⟨h1, h2, h3, h4, h5, fun hidle => h6 (hsame ▸ hidle), by simp [hstation, (enterClash_effect s).2.1]⟩

/-! ## The link's timers -/

theorem loadAnnounceTimer_eq {w : WorkingCopy} {k : Link} {x : Word} (h : k.sequence = some x) :
    Link.loadAnnounceTimer w k = { k with
      sequence := some (sequenceLoad x), announceTimer := some (millis (reloadOf w (sequenceLoad x))) } := by
  simp [Link.loadAnnounceTimer, h]

/-- The listen timer's expiry leads to RUNNING with the table still undecided (R69). -/
theorem enterRunning_sound {w : WorkingCopy} {s : State} (h : s.Sound) (hw : s.store.working = some w)
    (hl : s.link.station = .listening) : (enterRunning w s).Sound := by
  have hquiet := h.link.quiet (by simp [hl])
  have hground : s.responds = false := by simp [State.responds, hl]
  have hnotAlone : s.peers.alone = false := by
    rw [Bool.eq_false_iff]
    intro hon
    simpa [hl] using (h.table.alone.mp hon).1
  obtain ⟨hannounce, hannounceHand, hshedHand, hshedBehind, htransmitting⟩ := hquiet
  have hactive : s.link.station.active = true := by rw [hl]; rfl
  refine decideAlone_sound ⟨⟨h.configured.exists_.trans hactive, h.configured.range⟩, h.memory.of_same,
    h.session.of_same, h.account.of_same, ?_, ?_, hnotAlone, ?_, ?_, h.composer.of_same (station := hactive.symm)⟩
  · obtain ⟨-, -, -, h4, h5, h6, h7, h8, h9, h10, h11⟩ := h.link
    exact ⟨rfl, fun hr => absurd rfl hr, fun _ => ⟨rfl, by simp [hannounceHand, Link.loadAnnounceTimer]⟩, h4, h5, h6, h7, h8, h9,
      h10, h11⟩
  · obtain ⟨h1, h2, h3, h4, h5, h6, -⟩ := h.table
    exact ⟨h1, h2, h3, h4, h5, fun hidle => absurd hidle Bool.true_eq_false.mp⟩
  · obtain ⟨h1, h2, h3, h4, h5, h6, h7, h8, h9, h10, h11, h12⟩ := h.share
    refine ⟨h1, h2, h3, h4, h5, h6, fun _ => h7 hground, h8, h9, h10, h11, fun hp => ?_⟩
    have hrole : w.role ≠ .post := fun hr => absurd (hp.symm.trans (isPost_of_role hw hr)) (by decide)
    simpa [allocationStart, hrole] using h12 hp
  · exact State.ReserveSound.of_parts h.reserve.shares h.reserve.states (fun _ => h.reserve.grounded hground)
      h.reserve.shed fun hidle => absurd hidle Bool.true_eq_false.mp

theorem listenExpired_sound {s : State} (h : s.Sound) : (listenExpired s).Sound := by
  unfold listenExpired
  split
  next w hw =>
    split
    · next hdue => exact enterRunning_sound h hw (by simpa using (Bool.and_eq_true_iff.mp hdue).2)
    · exact h
  · exact h

/-- A change of the link controller that leaves the station state touches no other invariant. -/
theorem State.Sound.of_link {s : State} {k : Link} (h : s.Sound) (link : (s.setLink k).LinkSound)
    (station : k.station = s.link.station := by rfl) : (s.setLink k).Sound :=
  ⟨h.configured.of_same (station := station), h.memory.of_same, h.session.of_same, h.account.of_same, link,
    h.table.of_same (station := station), h.share.of_same (station := station), h.reserve.of_same (station := station),
    h.composer.of_same (station := congrArg Station.active station)⟩

theorem announceExpired_sound {s : State} (h : s.Sound) : (announceExpired s).Sound := by
  unfold announceExpired
  split
  next w hw =>
    split
    · next hdue =>
      obtain ⟨htimer, hrun⟩ := Bool.and_eq_true_iff.mp hdue
      have hrun : s.link.station = .running := by simpa using hrun
      obtain ⟨hsequence, hone⟩ := h.link.announcing hrun
      have hempty : s.link.announceHand = none := by
        rw [(due_iff _).mp htimer] at hone
        simpa using hone.symm
      refine h.of_link ?_
      obtain ⟨h1, -, -, h4, h5, -, h7, h8, h9, h10, h11⟩ := h.link
      exact ⟨h1, fun hr => absurd hrun hr, fun _ => ⟨hsequence, rfl⟩, fun _ => rfl, h5,
        fun _ hf => by obtain rfl := Option.some.inj hf; exact ⟨Nat.zero_le _, fun _ => Nat.zero_le _⟩, h7, h8, h9,
        h10, h11⟩
    · exact h
  · exact h

/-! ## Transmissions -/

theorem senseIdle_sound {micros : Nat} {s : State} (h : s.Sound) (hfree : s.link.transmitting = none) :
    (senseIdle micros s).Sound := by
  unfold senseIdle
  split
  · exact elapse_sound h
  · refine h.of_link ?_
    obtain ⟨h1, h2, h3, h4, h5, h6, h7, h8, h9, -, h11⟩ := h.link
    exact ⟨h1, h2, h3, h4, h5, h6, h7, h8, h9, fun hd => absurd hd (by simp [Link.activityEnded, hfree]), h11⟩

theorem receiverAtStart_ne_hearing (k : Link) : k.receiverAtStart ≠ .hearing := by
  unfold Link.receiverAtStart
  split <;> exact Receiver.noConfusion

/-- The SHED in hand goes out on a line that the station does not drive: the fourth attempt at most (R73). -/
theorem startShed_linkSound {s : State} (h : s.LinkSound) (hfree : s.link.transmitting = none)
    (hrun : s.link.station = .running) : (s.setLink (s.link.startShed s.link.receiverAtStart)).LinkSound := by
  cases hf : s.link.shedHand with
  | none => simpa [Link.startShed, hf] using h
  | some f =>
    have hstart : s.link.startShed s.link.receiverAtStart =
        Link.drive .shed s.link.receiverAtStart (shedFrame f.frame)
          { s.link with shedHand := some { f with attempts := f.attempts + 1 } } := by simp [Link.startShed, hf]
    have hthree := (h.shedAttempts f hf).2 (by simp [hfree])
    rw [hstart]
    obtain ⟨h1, -, h3, -, -, h6, -, -, h9, -, -⟩ := h
    exact ⟨h1, fun hr => absurd hrun hr, h3, fun hs => absurd hs (by simp [Link.drive]), fun _ => rfl,
      fun a ha => ⟨(h6 a ha).1, fun _ => (h6 a ha).2 (by simp [hfree])⟩,
      fun a ha => by obtain rfl := Option.some.inj ha; exact ⟨Nat.succ_le_succ hthree, fun hno => absurd rfl hno⟩,
      fun _ => rfl, fun _ => h9 (by simp [hf]), fun _ => ⟨rfl, receiverAtStart_ne_hearing _⟩, fun _ => rfl⟩

/-- The ANNOUNCE in hand goes out on a line that the station does not drive (R73). -/
theorem startAnnounce_linkSound {s : State} (h : s.LinkSound) (hfree : s.link.transmitting = none)
    (hrun : s.link.station = .running) : (s.setLink (s.link.startAnnounce s.link.receiverAtStart)).LinkSound := by
  cases hf : s.link.announceHand with
  | none => simpa [Link.startAnnounce, hf] using h
  | some f =>
    have hstart : s.link.startAnnounce s.link.receiverAtStart =
        Link.drive .announce s.link.receiverAtStart (announceFrame f.frame)
          { s.link with announceHand := some { f with attempts := f.attempts + 1 } } := by simp [Link.startAnnounce, hf]
    have hthree := (h.announceAttempts f hf).2 (by simp [hfree])
    have htimer := h.announcing hrun
    rw [hf] at htimer
    rw [hstart]
    obtain ⟨h1, -, -, -, -, -, h7, h8, h9, -, -⟩ := h
    exact ⟨h1, fun hr => absurd hrun hr, fun _ => htimer, fun _ => rfl, fun hs => absurd hs (by simp [Link.drive]),
      fun a ha => by obtain rfl := Option.some.inj ha; exact ⟨Nat.succ_le_succ hthree, fun hno => absurd rfl hno⟩,
      fun a ha => ⟨(h7 a ha).1, fun _ => (h7 a ha).2 (by simp [hfree])⟩,
      fun hb => absurd (h8 hb) (by simp [hfree]), h9, fun _ => ⟨rfl, receiverAtStart_ne_hearing _⟩, fun _ => rfl⟩

theorem startReady_station (n : Nat) (r : Receiver) (k : Link) : (k.startReady n r).station = k.station := by
  unfold Link.startReady Link.startShed Link.startAnnounce
  repeat' split
  all_goals rfl

theorem sendReady_sound {s : State} (h : s.Sound) (hfree : s.link.transmitting = none)
    (hrun : s.link.station = .running) : (sendReady s).Sound := by
  refine h.of_link ?_ (startReady_station ..)
  unfold Link.startReady
  split
  · exact startShed_linkSound h.link hfree hrun
  split
  · exact startAnnounce_linkSound h.link hfree hrun
  · exact h.link

theorem senseIdle_link (micros : Nat) (s : State) :
    (senseIdle micros s).link.station = s.link.station
      ∧ (senseIdle micros s).link.transmitting = s.link.transmitting := by
  unfold senseIdle
  split <;> exact ⟨rfl, rfl⟩

theorem transmissionStarted_sound {micros : Nat} {s : State} (h : s.Sound) : (transmissionStarted micros s).Sound := by
  obtain ⟨hstation, htransmitting⟩ := senseIdle_link micros s
  unfold transmissionStarted
  split
  · next hfree =>
    split
    · next hrun => exact sendReady_sound (senseIdle_sound h hfree) (htransmitting.trans hfree) (hstation.trans hrun)
    · exact senseIdle_sound h hfree
  · exact h

/-- A station that drives the line is in RUNNING (R79, R116). -/
theorem State.LinkSound.running_of_transmitting {s : State} (h : s.LinkSound) {f : OwnFrame}
    (ht : s.link.transmitting = some f) : s.link.station = .running := by
  by_contra hr
  obtain ⟨-, -, -, -, hnone⟩ := h.quiet hr
  rw [hnone] at ht
  exact absurd ht (by simp)

/-- An own ANNOUNCE that leaves the hand after a transmission that has ended (R75). The counters may have moved. -/
theorem announceLeaves_sound {w : WorkingCopy} {s t : State} {k : Link} (h : s.Sound)
    (hsending : s.link.transmitting = some .announce) (ht : t = s.setLink k)
    (hk : k = { s.link.stopDriving with collisions := k.collisions, dropped := k.dropped }) :
    (announceLeaves w t).Sound := by
  subst ht
  have hrun := h.link.running_of_transmitting hsending
  have hstop : s.link.stopDriving = { s.link with transmitting := none, idleTime := 0, receiver := .deaf 0 } :=
    (Link.stopDriving_effect s.link).2 (by simp [hsending])
  obtain ⟨x, hx⟩ := Option.isSome_iff_exists.mp (h.link.announcing hrun).1
  have hbehind : s.link.shedBehind.isSome = false := by
    rw [Bool.eq_false_iff]
    exact fun hb => absurd ((h.link.shedBehind hb).symm.trans hsending) (by simp)
  have hleft : Link.loadAnnounceTimer w { k with announceHand := none } =
      { k with announceHand := none, sequence := some (sequenceLoad x)
               announceTimer := some (millis (reloadOf w (sequenceLoad x))) } :=
    loadAnnounceTimer_eq (by rw [hk, hstop]; exact hx)
  have hlink : (s.setLink (Link.loadAnnounceTimer w { k with announceHand := none })).LinkSound := by
    rw [hleft, hk, hstop]
    obtain ⟨h1, -, -, -, -, -, h7, -, h9, -, -⟩ := h.link
    exact ⟨h1, fun hr => absurd hrun hr, fun _ => ⟨rfl, rfl⟩, fun hs => absurd hs (by simp),
      fun hs => absurd hs (by simp), fun a ha => absurd ha (by simp),
      fun a ha => ⟨(h7 a ha).1, fun _ => (h7 a ha).2 (by simp [hsending])⟩,
      fun hb => absurd (hbehind.symm.trans hb) (by decide), h9, fun hd => absurd hd Bool.false_ne_true,
      fun he => absurd he (by simp)⟩
  have hstation : (Link.loadAnnounceTimer w { k with announceHand := none }).station = s.link.station := by
    rw [hleft, hk, hstop]
  exact allocationEvent_sound (h.of_link hlink hstation) (hstation.trans hrun)

/-- A SHED's transmission that has ended, the SHED kept or the next one in its place (R74 to R76). -/
theorem endShed_linkSound {s : State} {k : Link} (h : s.LinkSound) (hsending : s.link.transmitting = some .shed)
    (hand : Option ShedInHand) (hattempts : ∀ a ∈ hand, a.attempts ≤ 3)
    (hbehind : k.shedBehind = none)
    (hk : k = { s.link.stopDriving with
      shedHand := hand, shedBehind := k.shedBehind, collisions := k.collisions, dropped := k.dropped }) :
    (s.setLink k).LinkSound := by
  have hrun := h.running_of_transmitting hsending
  have hstop : s.link.stopDriving = { s.link with transmitting := none, idleTime := 0, receiver := .deaf 0 } :=
    (Link.stopDriving_effect s.link).2 (by simp [hsending])
  have hmeter := h.meter (h.sendingShed hsending)
  rw [hk, hbehind, hstop]
  obtain ⟨h1, -, h3, -, -, h6, -, -, -, -, -⟩ := h
  exact ⟨h1, fun hr => absurd hrun hr, h3, fun hs => absurd hs (by simp), fun hs => absurd hs (by simp),
    fun a ha => ⟨(h6 a ha).1, fun _ => (h6 a ha).2 (by simp [hsending])⟩,
    fun a ha => ⟨(hattempts a ha).trans (by decide), fun _ => hattempts a ha⟩, fun hb => absurd hb (by simp),
    fun _ => hmeter, fun hd => absurd hd Bool.false_ne_true, fun he => absurd he (by simp)⟩

theorem nextShed_attempts (k : Link) : ∀ a ∈ k.nextShed.shedHand, a.attempts ≤ 3 := by
  intro a ha
  obtain ⟨f, -, rfl⟩ := Option.map_eq_some_iff.mp ha
  exact Nat.zero_le _

theorem stopDriving_station (k : Link) : k.stopDriving.station = k.station := by
  unfold Link.stopDriving
  split <;> rfl

theorem stopDriving_shedHand (k : Link) : k.stopDriving.shedHand = k.shedHand := by
  unfold Link.stopDriving
  split <;> rfl

theorem completed_sound {s : State} (h : s.Sound) : (completed s).Sound := by
  unfold completed
  split
  · next hsending _ => exact announceLeaves_sound h hsending rfl rfl
  · next hsending _ =>
    exact h.of_link (endShed_linkSound h.link hsending _ (nextShed_attempts _) rfl rfl) (stopDriving_station _)
  · exact h

/-- A collided ANNOUNCE kept for another attempt (R74). -/
theorem keptAnnounce_linkSound {s : State} (h : s.LinkSound) (hsending : s.link.transmitting = some .announce)
    (hfew : s.link.announceHand.elim 0 AnnounceInHand.attempts < 4) : (s.setLink s.link.abandon).LinkSound := by
  have hrun := h.running_of_transmitting hsending
  have hstop : s.link.stopDriving = { s.link with transmitting := none, idleTime := 0, receiver := .deaf 0 } :=
    (Link.stopDriving_effect s.link).2 (by simp [hsending])
  have hbehind : s.link.shedBehind.isSome = false := by
    rw [Bool.eq_false_iff]
    exact fun hb => absurd ((h.shedBehind hb).symm.trans hsending) (by simp)
  have hattempts : ∀ a ∈ s.link.announceHand, a.attempts ≤ 3 := by
    intro a ha
    rw [Option.mem_def.mp ha] at hfew
    exact Nat.le_of_lt_succ hfew
  rw [Link.abandon, hstop]
  obtain ⟨h1, -, h3, -, -, -, h7, -, h9, -, -⟩ := h
  exact ⟨h1, fun hr => absurd hrun hr, h3, fun hs => absurd hs (by simp), fun hs => absurd hs (by simp),
    fun a ha => ⟨(hattempts a ha).trans (by decide), fun _ => hattempts a ha⟩,
    fun a ha => ⟨(h7 a ha).1, fun _ => (h7 a ha).2 (by simp [hsending])⟩,
    fun hb => absurd (hbehind.symm.trans hb) (by decide), h9, fun hd => absurd hd Bool.false_ne_true,
    fun he => absurd he (by simp)⟩

theorem collided_sound {s : State} (h : s.Sound) : (collided s).Sound := by
  unfold collided
  split
  · next hsending _ =>
    unfold collidedAnnounce
    split
    · next hfew => exact h.of_link (keptAnnounce_linkSound h.link hsending hfew) (stopDriving_station _)
    · exact announceLeaves_sound h hsending rfl rfl
  · next hsending _ =>
    unfold Link.collidedShed
    split
    · exact h.of_link (endShed_linkSound h.link hsending _ (nextShed_attempts _) rfl rfl) (stopDriving_station _)
    next hnone =>
    have hbehind : s.link.stopDriving.shedBehind = none := by simpa [Link.abandon] using hnone
    split
    · next hfew =>
      refine h.of_link (endShed_linkSound h.link hsending s.link.shedHand (fun a ha => ?_) hbehind ?_)
        (stopDriving_station _)
      · rw [Option.mem_def.mp ha] at hfew
        exact Nat.le_of_lt_succ hfew
      · rw [← stopDriving_shedHand]
        rfl
    · exact h.of_link (endShed_linkSound h.link hsending none (fun a ha => absurd ha (by simp)) hbehind rfl)
        (stopDriving_station _)
  · exact h

/-! ## Receptions -/

theorem afterReception_linkSound {s : State} (h : s.LinkSound) : (s.setLink s.link.afterReception).LinkSound := by
  obtain ⟨h1, h2, h3, h4, h5, h6, h7, h8, h9, h10, h11⟩ := h
  unfold Link.afterReception
  split
  · exact ⟨h1, h2, h3, h4, h5, h6, h7, h8, h9, fun hd => ⟨(h10 hd).1, Receiver.noConfusion⟩,
      fun he => absurd he (by simp)⟩
  split
  · next hfree =>
    exact ⟨h1, h2, h3, h4, h5, h6, h7, h8, h9, fun hd => absurd hd (by simp [hfree]), fun he => absurd he (by simp)⟩
  · exact ⟨h1, h2, h3, h4, h5, h6, h7, h8, h9, h10, h11⟩

theorem afterReception_station (k : Link) : k.afterReception.station = k.station := by
  unfold Link.afterReception
  repeat' split
  all_goals rfl

theorem receptionEnds_sound {fresh : Bool} {n : Nat} {s : State} (h : s.Sound) : (receptionEnds fresh n s).Sound :=
  (elapse_sound h).of_link (afterReception_linkSound (elapse_sound h).link) (afterReception_station _)

/-- The counters, the receive buffer and the line last driven are read by no invariant. -/
theorem State.Sound.of_counters {s : State} {k : Link} (h : s.Sound)
    (station : k.station = s.link.station := by rfl) (listenTimer : k.listenTimer = s.link.listenTimer := by rfl)
    (announceTimer : k.announceTimer = s.link.announceTimer := by rfl)
    (sequence : k.sequence = s.link.sequence := by rfl) (announceHand : k.announceHand = s.link.announceHand := by rfl)
    (shedHand : k.shedHand = s.link.shedHand := by rfl) (shedBehind : k.shedBehind = s.link.shedBehind := by rfl)
    (transmitting : k.transmitting = s.link.transmitting := by rfl)
    (idleTime : k.idleTime = s.link.idleTime := by rfl) (receiver : k.receiver = s.link.receiver := by rfl) :
    (s.setLink k).Sound :=
  h.of_link (h.link.of_same station (congrArg _ listenTimer) (congrArg _ announceTimer) sequence announceHand shedHand
    shedBehind transmitting idleTime receiver) station

theorem putPeer_ne_nil (p : Peer) (l : List Peer) : putPeer p l ≠ [] := by
  unfold putPeer
  repeat' split
  all_goals exact List.cons_ne_nil _ _

/-- The entry of a valid ANNOUNCE from another station (R86). -/
theorem storeAnnounce_tableSound {f : WireAnnounce} {s : State} (h : s.TableSound)
    (hstation : stationInRange f.station = true) (hother : f.station.toNat ≠ s.stationNumber)
    (hactive : s.link.station.active = true) : (storeAnnounce f s).TableSound := by
  obtain ⟨hrising, hmem⟩ := putPeer_effect (Peer.ofAnnounce f) s.peers.entries h.rising
  have hall : ∀ P : Peer → Prop, (∀ p ∈ s.peers.entries, P p) → P (Peer.ofAnnounce f) →
      ∀ p ∈ putPeer (Peer.ofAnnounce f) s.peers.entries, P p := by
    intro P hold hnew p hp
    rcases (hmem p).mp hp with ⟨hin, -⟩ | rfl
    · exact hold p hin
    · exact hnew
  refine ⟨hrising, hall _ h.range ?_, hall _ h.foreign hother, hall _ h.sanitised (Nat.min_le_right ..),
    hall _ h.age (Nat.zero_le _), fun hidle => absurd (hactive.symm.trans hidle) (by decide), ?_⟩
  · simpa [stationInRange, Peer.ofAnnounce] using hstation
  · simp [storeAnnounce, putPeer_ne_nil]

/-- A stored ANNOUNCE ends ALONE, which asks less of the share engine. -/
theorem State.ShareSound.ofNotAlone {s t : State} (h : s.ShareSound) (alone : t.peers.alone = false)
    (share : t.share = s.share := by simp) (tracker : t.tracker = s.tracker := by simp)
    (store : t.store = s.store := by simp) (link : t.link = s.link := by simp) : t.ShareSound := by
  have post := isPost_of_same (s := s) (t := t) (by rw [store])
  have meter := isMeter_of_same (s := s) (t := t) (by rw [store])
  have responds := responds_of_same (s := s) (t := t) (by rw [store]) (by rw [link])
  constructor <;> simp only [share, tracker, store, post, meter, responds]
  case withinIsland => exact fun hon => absurd (alone.symm.trans hon) (by decide)
  exacts [h.withinClaim, h.withinBudget, h.held, h.tenureOff, h.tenureOn, h.grounded, h.capped, h.shedTimer, h.meter,
    h.overload, h.post]

theorem storeAnnounce_sound {f : WireAnnounce} {s : State} (h : s.Sound) (hstation : stationInRange f.station = true)
    (hother : s.ownNumber f.station = false) (hactive : s.link.station.active = true) : (storeAnnounce f s).Sound := by
  obtain ⟨w, hw⟩ := Option.isSome_iff_exists.mp (h.configured.exists_.trans hactive)
  have hnumber : f.station.toNat ≠ s.stationNumber := by
    intro heq
    simp [State.ownNumber, hw] at hother
    simp [State.stationNumber, hw] at heq
    exact hother heq.symm
  exact ⟨h.configured.of_same, h.memory.of_same, h.session.of_same, h.account.of_same, h.link.of_same,
    storeAnnounce_tableSound h.table hstation hnumber hactive, h.share.ofNotAlone rfl, h.reserve.of_same,
    h.composer.of_same⟩

theorem routeAnnounce_sound {f : WireAnnounce} {s : State} (h : s.Sound) (hstation : stationInRange f.station = true) :
    (routeAnnounce f s).Sound := by
  have hactive : ∀ st, s.link.station = st → st.active = true → s.link.station.active = true := fun st he ha => he ▸ ha
  unfold routeAnnounce
  split
  · exact h
  · exact h
  · next hs =>
    split
    · exact enterClash_sound h (hactive _ hs rfl)
    · next hno => exact storeAnnounce_sound h hstation (by simpa using hno) (hactive _ hs rfl)
  · next hs =>
    split
    · exact enterClash_sound h (hactive _ hs rfl)
    · next hno => exact storeAnnounce_sound h hstation (by simpa using hno) (hactive _ hs rfl)
  · next hs =>
    split
    · exact h
    · next hno => exact storeAnnounce_sound h hstation (by simpa using hno) (hactive _ hs rfl)

theorem handShed_sound {f : WireShed} {s : State} (h : s.Sound)
    (hrun : s.link.station = .listening ∨ s.link.station = .running) : (handShed f s).Sound := by
  unfold handShed
  split
  · exact takeShed_sound h hrun
  · exact h

theorem routeShed_sound {f : WireShed} {s : State} (h : s.Sound) : (routeShed f s).Sound := by
  unfold routeShed
  split
  · exact h
  · exact h
  · next hs =>
    split
    · exact enterClash_sound h (by rw [hs]; rfl)
    · exact handShed_sound h (.inl hs)
  · next hs =>
    split
    · exact enterClash_sound h (by rw [hs]; rfl)
    · exact handShed_sound h (.inr hs)
  · exact h

/-- The checks of R77 let an ANNOUNCE pass with its station number in range alone. -/
theorem judgeAnnounce_stationInRange {f g : WireAnnounce} (h : judgeAnnounce f = .announce g) :
    stationInRange g.station = true := by
  unfold judgeAnnounce at h
  split at h
  · next hok =>
    obtain rfl : f = g := by simpa using h
    exact (Bool.and_eq_true_iff.mp hok).1
  · exact absurd h (by simp)

theorem judgeShed_not_announce (f : WireShed) (g : WireAnnounce) : judgeShed f ≠ .announce g := by
  unfold judgeShed
  split <;> simp

theorem receptionOf_stationInRange {characters : List Byte} {g : WireAnnounce}
    (h : receptionOf characters = .announce g) : stationInRange g.station = true := by
  unfold receptionOf at h
  split at h
  · exact absurd h (by simp)
  · exact absurd h (by simp)
  next kind payload _ =>
  split at h
  · cases hp : announceOf payload with
    | none => simp [hp] at h
    | some f => exact judgeAnnounce_stationInRange (f := f) (by simpa [hp] using h)
  split at h
  · cases hp : shedOf payload with
    | none => simp [hp] at h
    | some f => exact absurd (by simpa [hp] using h) (judgeShed_not_announce f g)
  · exact absurd h (by simp)

theorem decideReception_sound {r : Reception} {s : State} (h : s.Sound)
    (hstation : ∀ f, r = .announce f → stationInRange f.station = true) : (decideReception r s).Sound := by
  unfold decideReception
  split
  · exact h.of_counters
  · exact h.of_counters
  · exact routeAnnounce_sound h.of_counters (hstation _ rfl)
  · exact routeShed_sound h.of_counters

theorem receive_sound {fresh : Bool} {n : Nat} {r : Reception} {s : State} (h : s.Sound)
    (hstation : ∀ f, r = .announce f → stationInRange f.station = true) : (receive fresh n r s).Sound := by
  unfold receive
  split
  · exact decideReception_sound (receptionEnds_sound h) hstation
  · exact receptionEnds_sound h

/-! ## Removals -/

/-- The removal of an entry that has aged leaves the table for ALONE to be decided (R87, R92). -/
theorem entryExpired_sound {station : Nat} {s : State} (h : s.Sound) : (entryExpired station s).Sound := by
  unfold entryExpired
  split
  · next hdue =>
    obtain ⟨-, hentry⟩ := Bool.and_eq_true_iff.mp hdue
    have hpresent : s.peers.entries ≠ [] := by
      intro hnil
      simp [State.entryDue, hnil] at hentry
    have hnotAlone : s.peers.alone = false := by
      rw [Bool.eq_false_iff]
      exact fun hon => hpresent (h.table.alone.mp hon).2
    have hsub : ∀ p ∈ dropPeer station s.peers.entries, p ∈ s.peers.entries := fun p hp => List.mem_of_mem_filter hp
    obtain ⟨h1, h2, h3, h4, h5, h6, -⟩ := h.table
    exact decideAlone_sound ⟨h.configured.of_same, h.memory.of_same, h.session.of_same, h.account.of_same,
      h.link.of_same,
      ⟨h1.filter _, fun p hp => h2 p (hsub p hp), fun p hp => h3 p (hsub p hp), fun p hp => h4 p (hsub p hp),
        fun p hp => h5 p (hsub p hp), fun hidle => by simp [dropPeer, h6 hidle]⟩,
      hnotAlone, h.share.of_same, h.reserve.of_same, h.composer.of_same⟩
  · exact h

end Sys2Proof.Machine


/-! PROOFS. The configuration store: what the stored and the formed working copy hold, how a load ends, the write-back,
start reset and service restart. -/

namespace Sys2Proof.Machine

/-! ## The working copy of an image (R171, 10.8) -/

theorem toNat_wordOfBytes (lo hi : Byte) : (wordOfBytes lo hi).toNat = lo.toNat + 256 * hi.toNat := by
  have hlt := lo.isLt
  rw [wordOfBytes, BitVec.toNat_append, Nat.shiftLeft_eq, Nat.mul_comm, ← Nat.two_pow_add_eq_or_of_lt hlt]
  omega

/-- A two-byte field stands low byte first. -/
theorem field16_eq (m : Mem) (a : Nat) : field16 m a = field8 m a + 256 * field8 m (a + 1) :=
  toNat_wordOfBytes _ _

theorem field8_le (m : Mem) (a : Nat) : field8 m a ≤ 255 := Nat.le_of_lt_succ (readByte m a).isLt

theorem field16_le (m : Mem) (a : Nat) : field16 m a ≤ 65535 := Nat.le_of_lt_succ (readWord m a).isLt

theorem clampNat_range {lo hi : Nat} (n : Nat) (h : lo ≤ hi) : lo ≤ clampNat lo hi n ∧ clampNat lo hi n ≤ hi := by
  simp only [clampNat]
  omega

/-- A value in its range is kept, and any other becomes the nearer bound. -/
theorem clampNat_cases {lo hi : Nat} (n : Nat) (h : lo ≤ hi) :
    (lo ≤ n → n ≤ hi → clampNat lo hi n = n) ∧ (n < lo → clampNat lo hi n = lo)
      ∧ (hi < n → clampNat lo hi n = hi) := by
  simp only [clampNat]
  omega

theorem stationInRange_iff (b : Byte) : stationInRange b = true ↔ 1 ≤ b.toNat ∧ b.toNat ≤ 32 := by
  simp [stationInRange]

/-- The five checks of 9.2 on an image that passes them. -/
theorem structuralError_none_iff (m : Mem) :
    structuralError m = none ↔
      (readByte m 0 = 0xD3 ∧ readByte m 1 = 0x5A ∧ readByte m 2 = 1) ∧ imageCrc m = readWord m 254
        ∧ stationInRange (readByte m 3) = true ∧ Role.ofByte (readByte m 4) ≠ none := by
  unfold structuralError
  repeat' split
  all_goals simp_all
  all_goals tauto

/-- Every value of the working copy formed from an image with a station number in range lies in its own range. -/
theorem clampCopy_inRange {w : WorkingCopy} (station : 1 ≤ w.station ∧ w.station ≤ 32)
    (powers : w.fcap ≤ 65535 ∧ w.site ≤ 65535 ∧ w.upcommit ≤ 65535 ∧ w.dncommit ≤ 65535)
    (derate : w.derate.length = 16) : (clampCopy w).InRange := by
  have hdb := clampNat_range w.db (Nat.zero_le 500)
  have hs2 := clampNat_range w.s2 (Nat.zero_le 600)
  constructor
  case station => exact station
  case powers => exact powers
  case nomf =>
    simp only [clampCopy, clampNomf]
    split <;> simp
  case full => exact clampNat_range w.full (Nat.le_trans (Nat.add_le_add_right hdb.2 10) (by decide))
  case s3 => exact (clampNat_range w.s3 (Nat.zero_le _)).2
  case derate =>
    refine ⟨by simpa [clampCopy] using derate, fun k hk => ?_⟩
    obtain ⟨n, -, rfl⟩ := List.mem_map.mp hk
    exact (clampNat_range n (Nat.zero_le 256)).2
  case isldiv | tann | ksil | shedhold | ntrip | target | ramp | qstep | idle | vwd =>
    exact clampNat_range _ (by decide)
  all_goals exact (clampNat_range _ (Nat.zero_le _)).2

theorem formCopy_inRange {m : Mem} (h : structuralError m = none) : (formCopy m).InRange := by
  obtain ⟨-, -, hstation, -⟩ := (structuralError_none_iff m).mp h
  exact clampCopy_inRange ((stationInRange_iff _).mp hstation)
    ⟨field16_le _ _, field16_le _ _, field16_le _ _, field16_le _ _⟩ (by simp [storedCopy])

/-- Settles O7: the stored values by their offsets, the formed ones by the clamp of each range. -/
theorem formedCopyLiesInRange : Obligations.FormedCopyLiesInRange := by
  unfold Obligations.FormedCopyLiesInRange
  rintro m byte word stored formed hbyte hword hsound rfl rfl
  have hfield8 : ∀ a, byte a = field8 m a := hbyte
  have hfield16 : ∀ a, word a = field16 m a := fun a => by rw [hword, hfield8, hfield8, field16_eq]
  obtain ⟨-, -, -, hrole⟩ := (structuralError_none_iff m).mp hsound
  have hdb := (clampNat_range (storedCopy m).db (Nat.zero_le 500)).2
  refine ⟨?_, formCopy_inRange hsound, ?_, fun i hi => ?_, fun h => if_pos h, fun h => if_neg (by omega),
    rfl, rfl, rfl, rfl, rfl, rfl, rfl⟩
  · have hmask : BitVec.ofNat 16 (word 73) = readWord m 73 := by simp [hfield16, field16]
    have hrole4 : (Role.ofByte (readByte m 4)).getD .post = if byte 4 = 1 then .post else .meter := by
      have hone : byte 4 = 1 ↔ readByte m 4 = 1 := by
        rw [hbyte, ← BitVec.toNat_inj]
        rfl
      simp only [Role.ofByte] at hrole ⊢
      split <;> simp_all
    simp only [storedCopy, hfield8, hfield16] at hmask hrole4 ⊢
    rw [hmask, hrole4]
  · simp only [List.forall_mem_cons, List.not_mem_nil, false_implies, implies_true, and_true]
    refine ⟨?_, ?_, ?_, ?_, ?_, ?_, ?_, ?_, ?_, ?_, ?_, ?_, ?_, ?_, ?_, ?_, ?_, ?_, ?_, ?_, ?_, ?_, ?_⟩
    all_goals refine clampNat_cases _ ?_
    case refine_5 => exact Nat.le_trans (Nat.add_le_add_right hdb 10) (by decide)
    all_goals simp
  · have hlen : i < (storedCopy m).derate.length := by simpa [storedCopy] using hi
    have hget : (formCopy m).derate.getD i 0 = clampNat 0 256 ((storedCopy m).derate.getD i 0) := by
      simp only [formCopy, clampCopy, List.getD_eq_getElem?_getD, List.getElem?_map,
        List.getElem?_eq_getElem hlen, Option.map_some, Option.getD_some]
    rw [hget]
    simp [clampNat]

/-! ## The end of a load (R170, R171) -/

/-- What a part holds before a load ends: no working copy, no session, an empty table and blocks at rest. -/
structure State.AtRest (s : State) : Prop where
  vacant : s.tracker.readiness = .vacant
  entries : s.peers.entries = []
  starting : s.reserve.state = .starting ∧ s.reserve.active = 0 ∧ s.reserve.droop = 0
  quiet : s.link.announceHand = none ∧ s.link.shedHand = none ∧ s.link.shedBehind = none
    ∧ s.link.transmitting = none ∧ s.link.receiver ≠ .ending
  unallocated : s.share.lastAllocation = none
  composer : s.composer.mode = .standby ∧ s.composer.demand = 0 ∧ s.composer.output = 0 ∧ s.composer.residue = 0
    ∧ s.composer.ramped = 0

theorem State.Sound.atRest {s : State} (h : s.Sound) (hload : s.link.station = .loading) : s.AtRest := by
  have hactive : s.link.station.active = false := by rw [hload]; rfl
  have hpost := isPost_of_no_working (h.configured.working_none hactive)
  obtain ⟨-, hannounce, hshed, hbehind, htransmitting⟩ := h.link.quiet (by simp [hload])
  have hidle := h.reserve.idle hactive
  obtain ⟨-, hactive0, hdroop, -⟩ := h.reserve.starting hidle
  exact {
    vacant := h.session.vacant_of_not_post hpost
    entries := h.table.idle hactive
    starting := ⟨hidle, hactive0, hdroop⟩
    quiet := ⟨hannounce, hshed, hbehind, htransmitting, fun hending => by simpa [htransmitting] using h.link.ending hending⟩
    unallocated := h.share.post hpost
    composer := h.composer.idle (by simp [State.composes, hpost]) }

/-- In VACANT nothing of the session invariant asks for a working copy. -/
theorem State.SessionSound.of_vacant {s t : State} (h : s.SessionSound) (vacant : s.tracker.readiness = .vacant)
    (vehicle : t.vehicle = s.vehicle := by simp) (tracker : t.tracker = s.tracker := by simp) : t.SessionSound := by
  cases s
  cases t
  subst vehicle tracker
  obtain ⟨h1, h2, h3, -, h4, h5, h6, h7, h8, h9, h10, h11, h12, h13, h14, h15⟩ := h
  exact ⟨h1, h2, h3, fun hne => absurd vacant hne, h4, h5, h6, h7, h8, h9, h10, h11, h12, h13, h14, h15⟩

theorem emptyTable_tableSound {s : State} (entries : s.peers.entries = []) (alone : s.peers.alone = false)
    (station : s.link.station ≠ .running) : s.TableSound := by
  constructor <;> simp [entries, alone, station]

/-- A load that ends with a structural error leaves a sound part in UNCONFIGURED (R67, R170). -/
theorem endWithError_sound {e : LoadResult} {s : State} (h : s.Sound) (hload : s.link.station = .loading) :
    (endWithError e s).Sound := by
  obtain ⟨hvacant, hentries, hstarting, ⟨hannounce, hshed, hbehind, htransmitting, hreceiver⟩, hunallocated, -⟩ :=
    h.atRest hload
  have hidle : Station.active .unconfigured = s.link.station.active := by rw [hload]; rfl
  have hnone : none = s.store.working := (h.configured.working_none hidle.symm).symm
  refine raise_sound ⟨⟨rfl, fun w hw => nomatch hw⟩, h.memory.of_same rfl rfl, h.session.of_vacant hvacant,
    h.account.of_same (working := hnone), ?_, emptyTable_tableSound hentries rfl (by simp [Link.unconfigure]),
    leaveRunningShare_shareSound rfl rfl h.share.shedTimer (fun _ => hunallocated),
    leaveRunningReserve_reserveSound h.reserve rfl (fun _ => hstarting.1),
    h.composer.of_same (station := hidle) (working := hnone)⟩
  exact quiet_linkSound rfl (by simp [Link.unconfigure]) rfl hannounce hshed hbehind htransmitting hreceiver

/-- In VACANT a derating is computed and nothing more happens (R154). -/
theorem rederate_of_vacant (w : WorkingCopy) {s : State} (h : s.tracker.readiness = .vacant) :
    rederate w s = s.setComposer (s.composer.derated w) := by
  simp [rederate, recomputeIfLinked, h, Readiness.linked]

/-- The composer at an entry to LISTENING. -/
def Composer.listening (w : WorkingCopy) (c : Composer) : Composer :=
  if w.role = .post then Composer.derated w { c with feederSample := none } else c

theorem Composer.listening_frame (w : WorkingCopy) (c : Composer) :
    ∃ index factor pderated sample, c.listening w =
        { c with derateIndex := index, derateFactor := factor, pderated := pderated, feederSample := sample }
      ∧ (w.role = .post → sample = none) := by
  unfold Composer.listening
  split
  · exact ⟨_, _, _, _, rfl, fun _ => rfl⟩
  next hrole => exact ⟨_, _, _, _, rfl, fun hpost => absurd hpost hrole⟩

theorem listenStage_of_vacant (w : WorkingCopy) {s : State} (h : s.tracker.readiness = .vacant) :
    listenStage w s = s.setComposer (s.composer.listening w) := by
  unfold listenStage Composer.listening
  split
  · rw [rederate_of_vacant w (by simpa using h)]
    rfl
  · rfl

/-- The reserve unit at an entry to LISTENING, its response, offers and shares 0 (R135, R147). -/
theorem listenReserve_reserveSound {w : WorkingCopy} {s t : State} (h : s.reserve.active = 0 ∧ s.reserve.droop = 0)
    (reserve : t.reserve = listenReserve w (leaveRunningReserve s.reserve)) (active : t.link.station.active = true) :
    t.ReserveSound := by
  constructor <;> simp only [reserve, listenReserve, leaveRunningReserve, active, h.1, h.2]
  all_goals by_cases hdisabled : w.role = .meter ∨ (w.upcommit = 0 ∧ w.dncommit = 0) <;> simp [hdisabled]

/-- A composer at rest keeps its invariant in any station state and with any working copy in range. -/
theorem listening_composerSound {w : WorkingCopy} {s t : State} (h : s.ComposerSound) (hrest : s.AtRest)
    (hw : t.store.working = some w) (hqstep : 1 ≤ w.qstep) (composer : t.composer = s.composer.listening w) :
    t.ComposerSound := by
  obtain ⟨hmode, hdemand, houtput, hresidue, hramped⟩ := hrest.composer
  obtain ⟨index, factor, pderated, sample, heq, hsample⟩ := s.composer.listening_frame w
  obtain ⟨hclamps, htarget, hdemand', -, -, hsettle, hrun, hwake, hwakeTime, htimedOut, hsilent, -, -⟩ := h
  rw [heq] at composer
  constructor <;> simp only [composer, hw, Option.mem_some_iff, forall_eq']
  case residue => omega
  case quantum => simp [hdemand, houtput]
  case idle => exact fun _ => ⟨hmode, hdemand, houtput, hresidue, hramped⟩
  case sample => exact fun hpost => hsample (by simpa [State.isPost, State.role, hw] using hpost)
  all_goals assumption

/-- The state at an entry to LISTENING of a part at rest, before the link-up conditions are checked (R69). -/
def State.listening (w : WorkingCopy) (s : State) : State :=
  ((leaveRunning (s.setLink (s.link.listen w))).setReserve
    (listenReserve w (leaveRunningReserve s.reserve))).setComposer (s.composer.listening w)

theorem enterListening_of_vacant (w : WorkingCopy) {s : State} (h : s.tracker.readiness = .vacant) :
    enterListening w s = checkLinkUp (s.listening w) := by
  unfold enterListening
  rw [listenStage_of_vacant w (by simpa using h)]
  simp [State.listening]

/-- A part at rest that enters LISTENING with a working copy in range is sound (R67, R69, R171). -/
theorem listening_sound {w : WorkingCopy} {s t : State} (h : s.Sound) (hload : s.link.station = .loading)
    (hrange : w.InRange) (working : t.store.working = some w) (vehicle : t.vehicle = s.vehicle)
    (tracker : t.tracker = s.tracker) (account : t.account = s.account) (link : t.link = s.link)
    (peers : t.peers = s.peers) (share : t.share = s.share) (reserve : t.reserve = s.reserve)
    (composer : t.composer = s.composer) (memory : t.store.memory = s.store.memory)
    (shadow : t.store.shadow = s.store.shadow) : (t.listening w).Sound := by
  have hrest := h.atRest hload
  obtain ⟨hvacant, hentries, ⟨-, hzero⟩, ⟨hannounce, hshed, hbehind, htransmitting, hreceiver⟩, hunallocated, -⟩ :=
    id hrest
  cases t
  subst vehicle tracker account link peers share reserve composer
  have hnotTopped : s.tracker.readiness ≠ .topped := by simp [hvacant]
  refine ⟨⟨congrArg Option.isSome working, ?_⟩, h.memory.of_same memory shadow, h.session.of_vacant hvacant rfl rfl,
    h.account.notTopped hnotTopped hnotTopped rfl rfl, ?_, emptyTable_tableSound hentries rfl (by simp [State.listening, Link.listen]),
    leaveRunningShare_shareSound rfl rfl h.share.shedTimer (fun _ => hunallocated),
    listenReserve_reserveSound hzero rfl rfl, listening_composerSound h.composer hrest working hrange.qstep.1 rfl⟩
  · intro v hv
    obtain rfl : w = v := Option.some.inj (working.symm.trans hv)
    exact hrange
  · exact quiet_linkSound rfl (by simp [State.listening, Link.listen]) rfl hannounce hshed hbehind htransmitting hreceiver

/-- A load that forms a working copy leaves a sound part in LISTENING (R67, R69, R171). -/
theorem endWithCopy_sound {s : State} (h : s.Sound) (hload : s.link.station = .loading)
    (himage : structuralError s.store.shadow = none) : (endWithCopy s).Sound := by
  have hvacant : (raiseClamped (s.setStore s.store.configure)).tracker.readiness = .vacant := by
    simpa using (h.atRest hload).vacant
  rw [endWithCopy, enterListening_of_vacant _ hvacant]
  have hlistening := listening_sound (t := raiseClamped (s.setStore s.store.configure)) h hload (formCopy_inRange himage)
    (by simp [Store.configure]) (by simp) (by simp) (by simp) (by simp) (by simp) (by simp) (by simp) (by simp)
    (by simp [Store.configure]) (by simp [Store.configure])
  exact (checkLinkUp_soundAround hlistening.around).sound (hlistening.composer.of_composer (by simp))

/-- The structural checks on the shadow end a load with every invariant kept (R170). -/
theorem endLoad_sound {s : State} (h : s.Sound) (hload : s.link.station = .loading) : (endLoad s).Sound := by
  unfold endLoad
  cases himage : structuralError s.store.shadow with
  | none => exact endWithCopy_sound h hload himage
  | some e => exact endWithError_sound h hload

/-- A store whose working copy stays, with its memory and shadow in the canonical form. -/
theorem State.Sound.of_store {s : State} {st : Store} (h : s.Sound) (working : st.working = s.store.working)
    (memory : Mem.wf st.memory = true) (shadow : Mem.wf st.shadow = true) (image : ∀ c ∈ st.shadow, c.1 < 256) :
    (s.setStore st).Sound :=
  ⟨h.configured.of_same working, ⟨memory, shadow, image⟩, h.session.of_same (working := working),
    h.account.of_same (working := working), h.link.of_same (working := working), h.table.of_same (working := working),
    h.share.of_same (working := working), h.reserve.of_same (working := working), h.composer.of_same (working := working)⟩

/-- A store whose working copy, memory and shadow stay. -/
theorem State.Sound.of_kept_store {s : State} {st : Store} (h : s.Sound) (working : st.working = s.store.working)
    (memory : st.memory = s.store.memory) (shadow : st.shadow = s.store.shadow) : (s.setStore st).Sound :=
  h.of_store working (by rw [memory]; exact h.memory.memory) (by rw [shadow]; exact h.memory.shadow)
    (by rw [shadow]; exact h.memory.image)

/-- What a load has read of the memory is a canonical shadow (R170). -/
theorem loadShadow_sound {n : Nat} {s : State} (h : s.Sound) (hn : n ≤ 256) :
    (s.setStore { s.store with shadow := below n s.store.memory }).Sound :=
  h.of_store rfl h.memory.memory (below_wf n h.memory.memory)
    fun c hc => Nat.lt_of_lt_of_le (below_bounded n _ c hc) hn

theorem loadCompleted_sound {s : State} (h : s.Sound) : (loadCompleted s).Sound := by
  unfold loadCompleted
  split
  next hload => exact endLoad_sound (loadShadow_sound h (Nat.le_refl _)) hload
  · exact h

/-! ## Write-back (R174) and start reset (R175) -/

@[simp] theorem tearPage_memory (s : State) : (tearPage s).store.memory =
    tornPage s.freeDraws s.store.writebackPage s.store.shadow s.store.memory := by simp [tearPage]

@[simp] theorem tearPage_shadow (s : State) : (tearPage s).store.shadow = s.store.shadow := by
  simp [tearPage]

@[simp] theorem tearPage_working (s : State) : (tearPage s).store.working = s.store.working := by
  simp [tearPage]

theorem tearPage_wf {s : State} (h : Mem.wf s.store.memory = true) : Mem.wf (tearPage s).store.memory = true := by
  rw [tearPage_memory]
  exact tornPage_wf _ _ _ h

theorem tearPage_sound {s : State} (h : s.Sound) : (tearPage s).Sound := by
  have hstore : (s.setStore (tearPage s).store).Sound :=
    h.of_store (tearPage_working s) (tearPage_wf h.memory.memory) (by simpa using h.memory.shadow)
      (by simpa using h.memory.image)
  exact hstore.of_same

theorem failWriteback_sound {s : State} (h : s.Sound) : (failWriteback s).Sound :=
  raise_sound (h.of_kept_store rfl rfl rfl)

theorem memoryTimedOut_sound {n : Nat} {s : State} (h : s.Sound) : (memoryTimedOut n s).Sound := by
  unfold memoryTimedOut
  split
  next hload => exact endWithError_sound (loadShadow_sound h (by omega)) hload
  · split
    · exact failWriteback_sound (tearPage_sound h)
    · exact h

theorem pageMatched_sound {s : State} (h : s.Sound) : (pageMatched s).Sound := by
  unfold pageMatched finishWriteback
  split
  · exact raise_sound (h.of_kept_store rfl rfl rfl)
  · exact h.of_kept_store rfl rfl rfl

theorem pageReadBack_sound {bytes : List Byte} {s : State} (h : s.Sound) : (pageReadBack bytes s).Sound := by
  have hwritten : (pageWritten bytes s).Sound :=
    h.of_store rfl (writeBytes_wf _ _ _ h.memory.memory) h.memory.shadow h.memory.image
  unfold pageReadBack
  repeat' split
  exacts [pageMatched_sound hwritten, failWriteback_sound hwritten, h]

/-- Settles O57: nothing runs, nothing is held and nothing is listed. -/
theorem resetIsSound : Obligations.ResetIsSound where
  configured := ⟨rfl, fun w hw => nomatch hw⟩
  memory := ⟨rfl, rfl, fun c hc => nomatch hc⟩
  session := vacant_sessionSound rfl rfl rfl rfl rfl rfl rfl rfl rfl
  account := accountReset_accountSound rfl (by decide)
  link := quiet_linkSound rfl (by decide) rfl rfl rfl rfl rfl (by decide)
  table := emptyTable_tableSound rfl rfl (by decide)
  share := leaveRunningShare_shareSound (sh := Share.reset) rfl rfl rfl (fun _ => rfl)
  reserve := by constructor <;> decide
  composer := by constructor <;> simp [State.reset, Composer.reset, Store.reset]

theorem startReset_sound {s : State} (h : s.MemoryCanonical) : (startReset s).Sound := by
  have hmemory : Mem.wf (cutWriteback s).store.memory = true := by
    unfold cutWriteback
    split
    · exact tearPage_wf h.memory
    · exact h.memory
  have hreset : (State.reset.setStore (Store.reset (cutWriteback s).store.memory)).Sound :=
    State.Sound.of_store resetIsSound rfl hmemory rfl fun c hc => nomatch hc
  exact hreset.of_same rfl rfl rfl rfl rfl rfl rfl rfl rfl

/-! ## Service restart (R176) -/

/-- A part as it stands in LOADING: the load or the restart ends it without looking at its station state or at a working
copy that it holds still. -/
def State.reloaded (s : State) : State :=
  (s.setLink { s.link with station := .loading }).setStore { s.store with working := none }

theorem endWithCopy_reloaded (s : State) : endWithCopy s.reloaded = endWithCopy s := by
  have hclamped : (s.reloaded.setStore s.reloaded.store.configure).store.clamped
      = (s.setStore s.store.configure).store.clamped := rfl
  unfold endWithCopy raiseClamped
  rw [hclamped]
  split <;> rfl

theorem endLoad_reloaded (s : State) : endLoad s.reloaded = endLoad s := by
  unfold endLoad
  have hshadow : s.reloaded.store.shadow = s.store.shadow := rfl
  rw [hshadow]
  cases structuralError s.store.shadow with
  | none => exact endWithCopy_reloaded s
  | some e => rfl

theorem restart_noPermit (v : VehicleLine) : v.restart.waiting.filter ForwardFrame.isPermit = [] := by
  simp only [VehicleLine.restart, VehicleLine.clearSession, List.filter_append, List.filter_filter,
    List.append_eq_nil_iff, List.filter_eq_nil_iff]
  constructor
  · rintro (_ | _ | _) - <;> simp [ForwardFrame.isPermit, ForwardFrame.isStop]
  · split <;> simp [ForwardFrame.isPermit]

theorem Receiver.restart_ne_ending (r : Receiver) : r.restart ≠ .ending := by
  cases r <;> simp [Receiver.restart]

theorem withImageCrc_bounded {m : Mem} (h : ∀ c ∈ m, c.1 < 256) : ∀ c ∈ withImageCrc m, c.1 < 256 :=
  writeBytes_bounded m 254 _ h (by simp [bytesOfWord])

/-- What a restart leaves of every block before the shadow is checked is a part at rest in LOADING (R176). -/
theorem released_sound {s : State} (h : s.MemoryCanonical) :
    (resealShadow (releaseBlocks (clearAttention s))).reloaded.Sound where
  configured := ⟨rfl, fun w hw => nomatch hw⟩
  memory := ⟨h.memory, withImageCrc_wf h.shadow, withImageCrc_bounded h.image⟩
  session := vacant_sessionSound rfl rfl rfl rfl rfl rfl rfl rfl (restart_noPermit s.vehicle)
  account := accountReset_accountSound rfl (by simp [State.reloaded, resealShadow, releaseBlocks, Tracker.vacate, Tracker.reset])
  link := quiet_linkSound rfl (by simp [State.reloaded]) rfl rfl rfl rfl (stopDriving_cases s.link).1
    (Receiver.restart_ne_ending _)
  table := emptyTable_tableSound rfl rfl (by simp [State.reloaded])
  share := resetIsSound.share.of_same rfl rfl rfl rfl rfl
  reserve := resetIsSound.reserve.of_same rfl rfl rfl rfl rfl rfl rfl rfl rfl rfl rfl rfl rfl rfl rfl
  composer := resetIsSound.composer.of_composer rfl rfl rfl

theorem serviceRestart_sound {s : State} (h : s.MemoryCanonical) : (serviceRestart s).Sound := by
  rw [serviceRestart, ← endLoad_reloaded]
  exact endLoad_sound (released_sound h) rfl

end Sys2Proof.Machine


/-! PROOFS. The service port's requests and the dispatch: every command and every tick keeps every invariant. -/

namespace Sys2Proof.Machine

/-! ## Service requests (Chapter 10) -/

theorem takeReadItem_sound {item index : Byte} {s : State} (h : s.Sound) : (takeReadItem item index s).Sound := by
  unfold takeReadItem
  split <;> exact respond_sound h

theorem takeWriteShadow_sound {offset : Byte} {data : List Byte} {s : State} (h : s.Sound) :
    (takeWriteShadow offset data s).Sound := by
  unfold takeWriteShadow
  split
  next hok =>
    have hfits : offset.toNat + data.length ≤ 256 := by
      unfold writeShadowStatus at hok
      split at hok
      · simp at hok
      · omega
    exact respond_sound (h.of_store rfl h.memory.memory (writeBytes_wf _ _ _ h.memory.shadow)
      (writeBytes_bounded _ _ _ h.memory.image hfits))
  · exact respond_sound h

theorem takeWriteback_sound {s : State} (h : s.Sound) : (takeWriteback s).Sound := by
  unfold takeWriteback startWriteback
  split
  · exact respond_sound (h.of_store rfl h.memory.memory (withImageCrc_wf h.memory.shadow)
      (withImageCrc_bounded h.memory.image))
  · exact respond_sound h

theorem takeRestart_sound {s : State} (h : s.Sound) : (takeRestart s).Sound := by
  unfold takeRestart
  split
  · exact respond_sound h
  · exact serviceRestart_sound (respond_sound h).memory

theorem takeLooptestStart_sound {s : State} (h : s.Sound) : (takeLooptestStart s).Sound := by
  unfold takeLooptestStart
  split
  · exact respond_sound h.of_vehicle
  · exact respond_sound h

theorem takeLooptestStop_sound {s : State} (h : s.Sound) : (takeLooptestStop s).Sound := by
  unfold takeLooptestStop
  split
  · exact respond_sound (abortLoopTest_sound h)
  · exact respond_sound h

theorem takeRequest_sound {r : Request} {s : State} (h : s.Sound) : (takeRequest r s).Sound := by
  cases r with
  | readItem => exact takeReadItem_sound h
  | writeShadow => exact takeWriteShadow_sound h
  | writeback => exact takeWriteback_sound h
  | restart => exact takeRestart_sound h
  | looptestStart => exact takeLooptestStart_sound h
  | looptestStop => exact takeLooptestStop_sound h
  | attnRead => exact respond_sound h.of_same
  | attnRearm => exact respond_sound h.of_same

theorem requestTransferred_sound {frame : List Byte} {s : State} (h : s.Sound) :
    (requestTransferred frame s).Sound := by
  unfold requestTransferred
  cases requestOf frame with
  | none => exact respond_sound h
  | some r => exact clockZeros_sound (takeRequest_sound h)

theorem readTransferred_sound {clocked : Nat} {s : State} (h : s.Sound) : (readTransferred clocked s).Sound := by
  exact h.of_same

/-! ## Every command and every step -/

theorem stageFrameDiscarded_sound {frame : List Byte} {s : State} (h : s.Sound) :
    ((reportOf frame).elim s fun r => receiveReport r s).Sound := by
  cases reportOf frame with
  | none => exact h
  | some r => exact receiveReport_sound h

theorem stageSilent_sound {s : State} (h : s.Sound) : (if s.composes then evaluateSilence s else s).Sound := by
  split
  · exact evaluateSilence_sound h
  · exact h

theorem receptionEnd_sound {fresh : Bool} {n : Nat} {characters : List Byte} {s : State} (h : s.Sound) :
    (receive fresh n (receptionOf characters) (s.setLink { s.link with receiveBuffer := [] })).Sound :=
  receive_sound h.of_counters fun _ => receptionOf_stationInRange

/-- Every command answers a next state, and a sound one to a sound state. -/
theorem exec_sound (c : Instr) {s : State} (h : s.Sound) : ∃ t, exec c s = .next t ∧ t.Sound := by
  cases c with
  | startReset => exact ⟨_, rfl, startReset_sound h.memory⟩
  | loadComplete => exact ⟨_, rfl, loadCompleted_sound h⟩
  | configMemoryTimeout => exact ⟨_, rfl, memoryTimedOut_sound h⟩
  | connectorSample => exact ⟨_, rfl, connectorSampled_sound h⟩
  | helloReplyTimerExpiry => exact ⟨_, rfl, helloReplyExpired_sound h⟩
  | forwardFrameSend => exact ⟨_, rfl, forwardFrameSent_sound h⟩
  | identReceived => exact ⟨_, rfl, receiveBack_sound h (takeIdent_sound h)⟩
  | statusReceived => exact ⟨_, rfl, receiveBack_sound h (takeStatus_sound h)⟩
  | cardReceived => exact ⟨_, rfl, receiveBack_sound h (takeCard_sound h)⟩
  | vehicleFrameDiscarded => exact ⟨_, rfl, receiveBack_sound h (takeBackFrame_sound h)⟩
  | vehicleWatchdogExpiry => exact ⟨_, rfl, watchdogExpired_sound h⟩
  | minuteTimerExpiry => exact ⟨_, rfl, minuteExpired_sound h⟩
  | looptestStart => exact ⟨_, rfl, takeRequest_sound h⟩
  | looptestStop => exact ⟨_, rfl, takeRequest_sound h⟩
  | testFrameReturn => exact ⟨_, rfl, receiveBack_sound h (takeBackFrame_sound h)⟩
  | returnWindowExpiry => exact ⟨_, rfl, returnWindowExpired_sound h⟩
  | reportReceived => exact ⟨_, rfl, receiveReport_sound h⟩
  | stageFrameDiscarded => exact ⟨_, rfl, stageFrameDiscarded_sound h⟩
  | feederSample => exact ⟨_, rfl, receiveReport_sound h⟩
  | controlPeriod => exact ⟨_, rfl, controlPeriodTaken_sound h⟩
  | stageSilent => exact ⟨_, rfl, stageSilent_sound h⟩
  | idleTimerExpiry => exact ⟨_, rfl, idleExpired_sound h⟩
  | wakeTimerExpiry => exact ⟨_, rfl, wakeExpired_sound h⟩
  | lendableUpdate => exact ⟨_, rfl, updateLending_sound h⟩
  | offerCompute => exact ⟨_, rfl, computeOffers_sound h⟩
  | listenTimerExpiry => exact ⟨_, rfl, listenExpired_sound h⟩
  | announceTimerExpiry => exact ⟨_, rfl, announceExpired_sound h⟩
  | transmissionStart => exact ⟨_, rfl, transmissionStarted_sound h⟩
  | collision => exact ⟨_, rfl, collided_sound h⟩
  | transmissionComplete => exact ⟨_, rfl, completed_sound h⟩
  | receptionEnd => exact ⟨_, rfl, receptionEnd_sound h⟩
  | announceReceived => exact ⟨_, rfl, receive_sound h fun _ => judgeAnnounce_stationInRange⟩
  | shedReceived => exact ⟨_, rfl, receive_sound h fun g hg => absurd hg (judgeShed_not_announce _ g)⟩
  | peerEntryExpiry => exact ⟨_, rfl, entryExpired_sound h⟩
  | shedHoldExpiry => exact ⟨_, rfl, shedHoldExpired_sound h⟩
  | mainsEdge => exact ⟨_, rfl, mainsEdgeTaken_sound (elapse_sound h)⟩
  | edgeTimeout => exact ⟨_, rfl, edgeTimedOut_sound h⟩
  | readItem => exact ⟨_, rfl, takeRequest_sound h⟩
  | writeShadow => exact ⟨_, rfl, takeRequest_sound h⟩
  | writeback => exact ⟨_, rfl, takeRequest_sound h⟩
  | writebackPageDone => exact ⟨_, rfl, pageReadBack_sound h⟩
  | restart => exact ⟨_, rfl, takeRequest_sound h⟩
  | attnRead => exact ⟨_, rfl, takeRequest_sound h⟩
  | attnRearm => exact ⟨_, rfl, takeRequest_sound h⟩
  | readTransfer => exact ⟨_, rfl, readTransferred_sound h⟩
  | serviceRequestInvalid => exact ⟨_, rfl, requestTransferred_sound h⟩

/-- One step keeps every invariant: the front command on the queue's rest, or one tick. -/
theorem step_sound {s t : State} (h : s.Sound) (hstep : step s = .next t) : t.Sound := by
  unfold step at hstep
  split at hstep
  next c rest _ =>
    obtain ⟨u, hu, hsound⟩ := exec_sound c (s := s.setPending rest) h.of_same
    cases hu.symm.trans hstep
    exact hsound
  · cases hstep
    exact elapse_sound h

/-- Settles O58: every step keeps every invariant. -/
theorem stepKeepsSessionsSound : Obligations.StepKeepsSessionsSound := by
  intro s t h hstep
  have hsound := step_sound h hstep
  exact ⟨hsound.configured, hsound.memory, hsound.session, hsound.account⟩

/-- Settles O59: every step keeps every invariant. -/
theorem stepKeepsSharingSound : Obligations.StepKeepsSharingSound := by
  intro s t h hstep
  have hsound := step_sound h hstep
  exact ⟨hsound.link, hsound.table, hsound.share, hsound.reserve, hsound.composer⟩

/-- Settles O1: a step with a command waiting is that command's execution. -/
theorem stepRunsTheFrontCommand : Obligations.StepRunsTheFrontCommand := by
  intro c rest s hpending
  simp only [step, hpending]

/-- Settles O3: each command answers a next state, and no operation touches the queue. -/
theorem everyCommandCompletes : Obligations.EveryCommandCompletes := by
  intro c s
  cases c <;> refine ⟨_, rfl, ?_⟩
  case startReset => rfl
  case stageFrameDiscarded frame => cases reportOf frame <;> simp
  case stageSilent => split <;> simp
  case helloReplyTimerExpiry | vehicleWatchdogExpiry | minuteTimerExpiry | returnWindowExpiry | wakeTimerExpiry
      | listenTimerExpiry | announceTimerExpiry | peerEntryExpiry | shedHoldExpiry | edgeTimeout =>
    simp only [helloReplyExpired, watchdogExpired, minuteExpired, returnWindowExpired, wakeExpired, listenExpired,
      announceExpired, entryExpired, shedHoldExpired, edgeTimedOut]
    repeat' split
    all_goals simp
  case identReceived | statusReceived | cardReceived | vehicleFrameDiscarded | testFrameReturn =>
    unfold receiveBack
    split <;> simp
  all_goals simp

end Sys2Proof.Machine


/-! PROOFS. The timebase, start reset, loads and the write-back: the statements about what one event of these does. -/

namespace Sys2Proof.Machine

/-- A frame whose blocks the simp lemmas of the state show. -/
theorem unchangedExcept_of_same {l : List Block} {s t : State}
    (vehicle : .vehicle ∉ l → t.vehicle = s.vehicle := by simp)
    (tracker : .tracker ∉ l → t.tracker = s.tracker := by simp)
    (account : .account ∉ l → t.account = s.account := by simp)
    (link : .link ∉ l → t.link = s.link := by simp) (peers : .peers ∉ l → t.peers = s.peers := by simp)
    (share : .share ∉ l → t.share = s.share := by simp) (reserve : .reserve ∉ l → t.reserve = s.reserve := by simp)
    (composer : .composer ∉ l → t.composer = s.composer := by simp)
    (store : .store ∉ l → t.store = s.store := by simp) (service : .service ∉ l → t.service = s.service := by simp)
    (clock : .clock ∉ l → t.clock = s.clock := by simp)
    (freeDraws : .freeDraws ∉ l → t.freeDraws = s.freeDraws := by simp)
    (pending : .pending ∉ l → t.pending = s.pending := by simp) : unchangedExcept l s t :=
  unchangedExcept_intro vehicle tracker account link peers share reserve composer store service clock freeDraws pending

/-! ## The timebase (R2) -/

/-- Times add up. -/
theorem elapse_elapse (n k : Nat) (s : State) : (s.elapse n).elapse k = s.elapse (n + k) := by
  have hcount := countDown_countDown n k s
  have hlink : ((s.elapse n).elapse k).link = (s.elapse (n + k)).link := by
    have hreceiver : (s.elapse n).link.receiverAfter k = s.link.receiverAfter (n + k) :=
      Link.receiverAfter_receiverAfter n k (s.countDown n).link
    have hlisten : runDown k (runDown n s.link.listenTimer) = runDown (n + k) s.link.listenTimer :=
      congrArg (fun t : State => t.link.listenTimer) hcount
    have hannounce : runDown k (runDown n s.link.announceTimer) = runDown (n + k) s.link.announceTimer :=
      congrArg (fun t : State => t.link.announceTimer) hcount
    rw [elapse_link, hreceiver]
    simp only [elapse_link, hlisten, hannounce, Link.mk.injEq, true_and, and_true]
    split <;> omega
  have hclock : s.clock + n + k = s.clock + (n + k) := Nat.add_assoc _ _ _
  calc (s.elapse n).elapse k
      = (((s.countDown n).countDown k).setLink ((s.elapse n).elapse k).link).setClock (s.clock + n + k) := rfl
    _ = ((s.countDown (n + k)).setLink (s.elapse (n + k)).link).setClock (s.clock + (n + k)) := by
        rw [hcount, hlink, hclock]
    _ = s.elapse (n + k) := rfl

/-- An age counts up to T_sil, where it stands, and one beyond it stays. -/
theorem older_cases (n silent : Nat) (p : Peer) :
    (p.age + n ≤ silent → Peer.older n silent p = { p with age := p.age + n })
      ∧ (p.age ≤ silent → silent < p.age + n → Peer.older n silent p = { p with age := silent })
      ∧ (silent < p.age → Peer.older n silent p = p) := by
  refine ⟨fun _ => ?_, fun _ _ => ?_, fun _ => ?_⟩ <;> unfold Peer.older
  · rw [show min (p.age + n) (max p.age silent) = p.age + n by omega]
  · rw [show min (p.age + n) (max p.age silent) = silent by omega]
  · rw [show min (p.age + n) (max p.age silent) = p.age by omega]

/-- Settles O2: an empty queue makes a tick, and the blocks that the passing of time changes one by one. -/
theorem idleStepIsOneMicrosecond : Obligations.IdleStepIsOneMicrosecond := by
  intro s n
  refine ⟨fun hempty => ?_, fun k => elapse_elapse n k s, ?_, fun w hw => ?_, _, rfl, rfl, rfl, rfl, ?_, rfl, ?_,
    fun i p hp => ?_, rfl, rfl, fun e he => ?_, fun hnone => ?_, unchangedExcept_of_same⟩
  · simp only [step, hempty]
    rfl
  · rw [State.advance, millis_eq, Nat.mul_comm]
  · obtain hw : s.store.working = some w := hw
    simp [State.silentTime, hw, WorkingCopy.silentTime, WorkingCopy.announceTime]
  · rw [elapse_link]
    rfl
  · obtain ⟨-, -, hpeers, -⟩ := elapse_effect n s
    simp [hpeers, State.countDown]
  · have hentry : (s.elapse n).peers.entries[i]? = some (Peer.older n s.silentTime p) := by
      obtain ⟨-, -, hpeers, -⟩ := elapse_effect n s
      obtain hp : s.peers.entries[i]? = some p := hp
      simp [hpeers, State.countDown, hp]
    obtain ⟨hcounts, hreaches, hstays⟩ := older_cases n s.silentTime p
    rw [hentry]
    exact ⟨fun h => congrArg some (hcounts h), fun h k => congrArg some (hreaches h k), fun h => congrArg some (hstays h)⟩
  · have hcomposer : (s.elapse n).composer = { s.composer with wakeTimer := some (min (e + n) (max e 10000000)) } := by
      obtain ⟨-, -, -, -, -, hcomposer, -⟩ := elapse_effect n s
      obtain he : s.composer.wakeTimer = some e := he
      simp [hcomposer, State.countDown, he, wakeLimit]
    rw [hcomposer]
    refine ⟨fun _ => ?_, fun _ _ => ?_, fun _ => ?_⟩
    · rw [show min (e + n) (max e 10000000) = e + n by omega]
    · rw [show min (e + n) (max e 10000000) = 10000000 by omega]
    · rw [show min (e + n) (max e 10000000) = e by omega, ← (he : s.composer.wakeTimer = some e)]
  · obtain ⟨-, -, -, -, -, hcomposer, -⟩ := elapse_effect n s
    simp only [hcomposer, State.countDown, hnone, Option.map_none]
    rw [← hnone]

/-! ## Start reset (1.3) -/

/-- Settles O4: each block's reset value, and the memory with the torn page of a write-back it stopped. -/
theorem startResetClearsEveryBlock : Obligations.StartResetClearsEveryBlock := by
  intro s
  refine ⟨_, rfl, by and_intros <;> rfl, by and_intros <;> rfl, rfl, by and_intros <;> rfl, rfl,
    by and_intros <;> rfl, by and_intros <;> rfl, by and_intros <;> rfl, by and_intros <;> rfl,
    by and_intros <;> rfl, fun hstopped => ?_, fun hrunning hmemory a => ?_, rfl, rfl, rfl, rfl⟩
  · simp [startReset, cutWriteback, hstopped, Store.reset]
  · have htorn : (startReset s).store.memory =
        tornPage s.freeDraws s.store.writebackPage s.store.shadow s.store.memory := by
      simp [startReset, cutWriteback, hrunning, Store.reset]
    rw [htorn]
    exact ⟨readByte_tornPage _ _ a _ hmemory, (readByte_tornPage_mixture _ _ a _ hmemory).symm⟩

/-! ## The checks of a load (R170) -/

theorem bytesOfWord_wordOfBytes (lo hi : Byte) : bytesOfWord (wordOfBytes lo hi) = [lo, hi] := by
  have hlo : (wordOfBytes lo hi).setWidth 8 = lo := by
    apply BitVec.eq_of_toNat_eq
    have := lo.isLt
    rw [BitVec.toNat_setWidth, toNat_wordOfBytes]
    omega
  have hhi : ((wordOfBytes lo hi) >>> 8).setWidth 8 = hi := by
    apply BitVec.eq_of_toNat_eq
    have := lo.isLt
    have := hi.isLt
    rw [BitVec.toNat_setWidth, BitVec.toNat_ushiftRight, toNat_wordOfBytes, Nat.shiftRight_eq_div_pow]
    omega
  rw [bytesOfWord, hlo, hhi]

/-- A word in two bytes, low byte first. -/
theorem bytesOfWord_eq_iff (w : Word) (lo hi : Byte) : bytesOfWord w = [lo, hi] ↔ w = wordOfBytes lo hi := by
  refine ⟨fun h => ?_, fun h => h ▸ bytesOfWord_wordOfBytes lo hi⟩
  obtain ⟨rfl, rfl⟩ : w.setWidth 8 = lo ∧ (w >>> 8).setWidth 8 = hi := by simpa [bytesOfWord] using h
  exact (wordOfBytes_bytes w).symm

theorem Role.ofByte_eq_none_iff (b : Byte) : Role.ofByte b = none ↔ b ≠ 1 ∧ b ≠ 2 := by
  unfold Role.ofByte
  split
  next h => simp [h]
  next h1 =>
  split
  next h => simp [h]
  next h2 => simp only [ne_eq, h1, h2, not_false_eq_true, and_self]

theorem stationInRange_eq_false_iff (b : Byte) : stationInRange b = false ↔ b = 0 ∨ 32 < b.toNat := by
  rw [← Bool.not_eq_true, stationInRange_iff, ← BitVec.toNat_inj]
  simp only [BitVec.ofNat_eq_ofNat, BitVec.toNat_ofNat]
  omega

theorem imageCrc_ne_iff (m : Mem) :
    imageCrc m ≠ readWord m 254
      ↔ bytesOfWord (crc16 ((List.range 254).map (readByte m))) ≠ [readByte m 254, readByte m 255] := by
  rw [not_iff_not, bytesOfWord_eq_iff]
  simp only [imageCrc, readBytes, Nat.zero_add]
  rfl

/-! ## The ends of a load (R170, R171) -/

/-- All that a structural error does (R67, R93, R116, R121, R147, R170). -/
theorem endWithError_effect (e : LoadResult) (s : State) :
    (endWithError e s).store = { s.store with working := none, clamped := false, loadResult := e }
      ∧ (endWithError e s).link = { s.link with station := .unconfigured, listenTimer := none, announceTimer := none }
      ∧ (endWithError e s).service = { s.service with pendingCauses := s.service.pendingCauses ||| 8#12 }
      ∧ (endWithError e s).peers = { s.peers with alone := false }
      ∧ (endWithError e s).share = { s.share with
          allowance := 0, held := 0, tenure := false, tenureLeft := 0, discharge := 0, budget := none
          contested := false, overloadCount := 0, shedding := false }
      ∧ (endWithError e s).reserve = { s.reserve with
          response := 0, upShare := 0, downShare := 0, shortUp := false, shortDown := false, offerUp := 0
          offerDown := 0 } := ⟨rfl, rfl, rfl, rfl, rfl, rfl⟩

/-- A load over any shadow that ends with a structural error changes nothing but what that states. -/
theorem endWithError_unchangedExcept (e : LoadResult) (st : Store) (s : State) :
    unchangedExcept [.store, .link, .service, .peers, .share, .reserve] s (endWithError e (s.setStore st)) :=
  unchangedExcept_of_same

/-- Settles O6: the checks one by one, and the two ways into UNCONFIGURED. -/
theorem failedLoadEndsInUnconfigured : Obligations.FailedLoadEndsInUnconfigured := by
  refine ⟨fun image => ?_, fun s hload => ⟨fun e he => ?_, fun n hn => ?_⟩⟩
  · simp only [structuralError, imageCrc_ne_iff, stationInRange_eq_false_iff, Role.ofByte_eq_none_iff]
  · have hexec : exec .loadComplete s
        = .next (endWithError e (s.setStore { s.store with shadow := below 256 s.store.memory })) := by
      simp [exec, execLoadComplete, loadCompleted, hload, endLoad, he]
    obtain ⟨hstore, hlink, hservice, hpeers, hshare, hreserve⟩ :=
      endWithError_effect e (s.setStore { s.store with shadow := below 256 s.store.memory })
    exact ⟨_, hexec, hstore, hlink, hservice, hpeers, hshare, hreserve, endWithError_unchangedExcept _ _ _⟩
  · have hexec : exec (.configMemoryTimeout n) s
        = .next (endWithError .noAnswer (s.setStore { s.store with shadow := below n s.store.memory })) := by
      simp [exec, execConfigMemoryTimeout, memoryTimedOut, hload, show min n 255 = n by omega]
    obtain ⟨hstore, hlink, hservice, hpeers, hshare, hreserve⟩ :=
      endWithError_effect .noAnswer (s.setStore { s.store with shadow := below n s.store.memory })
    refine ⟨_, hexec, hstore, fun _ a => ?_, hlink, hservice, hpeers, hshare, hreserve,
      endWithError_unchangedExcept _ _ _⟩
    rw [hstore]
    exact readByte_below n a s.store.memory

theorem derateIndexOf_some (k : Int) : ((derateIndexOf (some k) : Nat) : Int) = max 0 (min 15 ((k - 40) / 5)) := by
  simp only [derateIndexOf, Option.elim, clampInt]
  omega

theorem derateIndexOf_eq {temperature : Option Int} {index : Nat}
    (hsome : ∀ k, temperature = some k → (index : Int) = max 0 (min 15 ((k - 40) / 5)))
    (hnone : temperature = none → index = 0) : derateIndexOf temperature = index := by
  cases temperature with
  | none => exact (hnone rfl).symm
  | some k => exact Int.ofNat_inj.mp ((derateIndexOf_some k).trans (hsome k rfl).symm)

/-- The store with the working copy of its shadow, and CONFIG_CLAMPED if a field was clamped (R171). -/
theorem raiseClamped_configure (s : State) :
    (raiseClamped (s.setStore s.store.configure)).store = s.store.configure
      ∧ (raiseClamped (s.setStore s.store.configure)).service = { s.service with
          pendingCauses :=
            if formCopy s.store.shadow ≠ storedCopy s.store.shadow then s.service.pendingCauses ||| 16#12
            else s.service.pendingCauses } := by
  refine ⟨by simp, ?_⟩
  unfold raiseClamped
  by_cases hclamped : formCopy s.store.shadow = storedCopy s.store.shadow
  · simp [Store.configure, copyClamped, hclamped]
  · simp [Store.configure, copyClamped, hclamped, withCause, Cause.bit, BitVec.twoPow]

/-- All that the entry to LISTENING of a part at rest changes before the link-up check, and what it leaves. -/
@[simp] theorem listening_frame (w : WorkingCopy) (s : State) :
    (s.listening w).vehicle = s.vehicle ∧ (s.listening w).tracker = s.tracker ∧ (s.listening w).account = s.account
      ∧ (s.listening w).link = s.link.listen w ∧ (s.listening w).peers = { s.peers with alone := false }
      ∧ (s.listening w).share = leaveRunningShare s.share
      ∧ (s.listening w).reserve = listenReserve w (leaveRunningReserve s.reserve)
      ∧ (s.listening w).composer = s.composer.listening w ∧ (s.listening w).store = s.store
      ∧ (s.listening w).service = s.service ∧ (s.listening w).clock = s.clock
      ∧ (s.listening w).freeDraws = s.freeDraws ∧ (s.listening w).pending = s.pending := by
  and_intros <;> rfl

theorem canLinkUp_listening {w : WorkingCopy} {s : State} (hw : s.store.working = some w)
    (hvacant : s.tracker.readiness = .vacant) : (s.listening w).canLinkUp
      = (decide (w.role = .post) && (decide (s.vehicle.pilot = .present) || decide (s.vehicle.pilot = .energy))) := by
  have hpost : (s.listening w).isPost = decide (w.role = .post) := by
    cases hrole : w.role <;> simp [State.isPost, State.role, hw, hrole]
  have hstation : (s.listening w).link.station = .listening := rfl
  have hreadiness : (s.listening w).tracker.readiness = .vacant := hvacant
  have hpilot : (s.listening w).vehicle.pilot = s.vehicle.pilot := rfl
  rw [State.canLinkUp, hpost, hstation, hreadiness, hpilot]
  cases s.vehicle.pilot <;> simp

/-- A sound image ends a load of a part in VACANT at the link-up check of its entry to LISTENING (R171). -/
theorem exec_loadComplete_sound {s : State} (hload : s.link.station = .loading)
    (hvacant : s.tracker.readiness = .vacant) (hsound : structuralError (below 256 s.store.memory) = none) :
    exec .loadComplete s = .next (checkLinkUp ((raiseClamped ((s.setStore
      { s.store with shadow := below 256 s.store.memory }).setStore
        (Store.configure { s.store with shadow := below 256 s.store.memory }))).listening
          (formCopy (below 256 s.store.memory)))) := by
  rw [← enterListening_of_vacant _ (by simpa using hvacant)]
  simp [exec, execLoadComplete, loadCompleted, hload, endLoad, hsound, endWithCopy]

/-- Settles O5: the entry to LISTENING of a part at rest, and the link-up check at it. -/
theorem soundImageEndsTheLoadInListening : Obligations.SoundImageEndsTheLoadInListening := by
  intro s image w links session index hindex hcold hload hvacant hlinks hsession himage hw h0 h1 h2 hcrc hlow hhigh hrole
  have hsound : structuralError image = none := by
    refine (structuralError_none_iff image).mpr ⟨⟨h0, h1, h2⟩, hcrc, (stationInRange_iff _).mpr ⟨hlow, hhigh⟩, ?_⟩
    rw [Ne, Role.ofByte_eq_none_iff]
    tauto
  subst himage
  have hexec := exec_loadComplete_sound hload hvacant hsound
  rw [← hw] at hexec
  obtain ⟨hstore, hservice⟩ := raiseClamped_configure (s.setStore { s.store with shadow := below 256 s.store.memory })
  simp only [State.setStore_store, State.setStore_service, ← hw] at hstore hservice
  generalize hy : raiseClamped _ = y at hexec hstore hservice
  have hworking : y.store.working = some w := by rw [hstore, hw]; rfl
  have hcan : (y.listening w).canLinkUp = links := by
    rw [canLinkUp_listening hworking (by simpa [← hy] using hvacant), hlinks]
    simp [← hy]
  obtain ⟨hdo, hskip⟩ := checkLinkUp_effect (y.listening w) w hworking
  refine ⟨_, hexec, ?_, by simp [← hy, Link.listen, WorkingCopy.silentTime, WorkingCopy.announceTime],
    by simp [← hy], by simp [← hy, leaveRunningShare, endTenure],
    by simp [← hy, listenReserve, leaveRunningReserve, edgeTimeoutTime], ?_, by simpa using hservice,
    fun hlinked => ?_, fun hunlinked => ?_⟩
  · simp [hstore, Store.configure, copyClamped, hw]
  · simp [← hy, Composer.listening, Composer.derated, derateIndexOf_eq hindex hcold]
  · obtain ⟨hvehicle, htracker, haccount⟩ := hdo (hcan.trans hlinked)
    refine ⟨?_, ?_, haccount, by subst hy; exact unchangedExcept_of_same⟩
    · rw [hvehicle, ← hy]
      simp [VehicleLine.linkUp, nextSession, hsession]
    · rw [htracker, ← hy]
      simp [Tracker.linkUp]
  · rw [hskip (hcan.trans hunlinked)]
    subst hy
    exact unchangedExcept_of_same

/-! ## The write-back (R174) -/

/-- Settles O8: a page that is not answered, and a page read back. -/
theorem writebackAdvancesCompletesOrFails : Obligations.WritebackAdvancesCompletesOrFails := by
  rintro s n hload hrunning rfl hmemory
  refine ⟨fun answered => ?_, fun page => ?_⟩
  · have hexec : exec (.configMemoryTimeout answered) s = .next (failWriteback (tearPage s)) := by
      simp [exec, execConfigMemoryTimeout, memoryTimedOut, hload, hrunning]
    have htorn : (failWriteback (tearPage s)).store.memory =
        tornPage s.freeDraws s.store.writebackPage s.store.shadow s.store.memory := by simp [failWriteback]
    refine ⟨_, hexec, by simp [failWriteback, tearPage], fun a ha => ?_, fun a => ?_, ?_, unchangedExcept_of_same⟩
    · rw [htorn]
      exact readByte_tornPage _ _ a _ hmemory ha
    · rw [htorn]
      exact (readByte_tornPage_mixture _ _ a _ hmemory).symm
    · simp [failWriteback, withCause, Cause.bit, BitVec.twoPow]
  · have hbytes : ∀ a, readByte (pageWritten page.toList s).store.memory a =
        if 16 * s.store.writebackPage ≤ a ∧ a < 16 * s.store.writebackPage + 16 then
          page.toList.getD (a - 16 * s.store.writebackPage) 0 else readByte s.store.memory a := by
      intro a
      simp [pageWritten, readByte_writeBytes _ _ _ _ hmemory]
    have hread : pageReadBack page.toList s =
        if page.toList = readBytes s.store.shadow (16 * s.store.writebackPage) 16 then
          pageMatched (pageWritten page.toList s) else failWriteback (pageWritten page.toList s) := by
      rw [pageReadBack, if_pos hrunning]
      rfl
    refine ⟨_, rfl, fun a => ?_, fun hsame hmore => ?_, fun hsame hlast => ?_, fun hdiffer => ?_,
      unchangedExcept_of_same⟩
    · rw [← hbytes a, hread]
      unfold pageMatched
      repeat' split
      all_goals simp [finishWriteback, failWriteback]
    · have hpage : ¬15 ≤ s.store.writebackPage := by omega
      rw [hread, if_pos hsame]
      simp [pageMatched, pageWritten, hpage]
    · rw [hread, if_pos hsame]
      simp [pageMatched, pageWritten, finishWriteback, hlast, withCause, Cause.bit, BitVec.twoPow]
    · rw [hread, if_neg hdiffer]
      simp [pageWritten, failWriteback, withCause, Cause.bit, BitVec.twoPow]

end Sys2Proof.Machine


/-! PROOFS. Connector samples: what one sample confirms, and what its steps make of the loop test, the session, the
sensed faults and the link-up (1.1, 1.2, 1.5, 1.7, 1.8). -/

namespace Sys2Proof.Machine

/-! ## A recompute with every input named (R30) -/

/-- The accepting condition of a linked state: the pilot ENERGY and a last STATUS with both flags (R15). -/
def State.acceptsNow (s : State) : Bool :=
  s.vehicle.pilot == .energy && s.vehicle.lastStatus.any fun k => k.flags.getLsbD 0 && k.flags.getLsbD 1

/-- The derived values that a recompute with a card and a countdown finds (R31 to R34). -/
def State.derivedFor (w : WorkingCopy) (c : RunCard) (n : Nat) (s : State) : Derived :=
  derivedOf w c n s.account.enow s.pvmax s.composer.pderated s.ecap

/-- All that a recompute does in a session with a card and a countdown (R30, R58, R114). -/
structure State.Recomputes (cardStored : Bool) (w : WorkingCopy) (c : RunCard) (n : Nat) (s t : State) : Prop where
  tracker : t.tracker = { s.tracker with
    derived := some (s.derivedFor w c n)
    readiness := readinessOf c n (s.derivedFor w c n)
    urgency := urgencyOf w (readinessOf c n (s.derivedFor w c n)) (s.derivedFor w c n)
    claim := claimOf (readinessOf c n (s.derivedFor w c n)) (s.derivedFor w c n) s.account.enow s.acceptsNow c.pcond
      s.composer.pderated
    outcome := outcomeAfter cardStored s.tracker (readinessOf c n (s.derivedFor w c n)) (s.derivedFor w c n) }
  follows : t.TrackerFollows w c n s.account.enow
  lowered : s.share.LoweredTo t.tracker.claim t.share
  lends : t.LendsByTable
  allowance : t.share.allowance = min s.share.allowance t.tracker.claim
  account : t.account =
    { s.account with gate := t.account.gate, lendable := t.account.lendable, offer := t.account.offer }
  service : t.service =
    if t.tracker.readiness = .atRisk ∧ s.tracker.readiness ≠ .atRisk then
      { s.service with pendingCauses := s.service.pendingCauses ||| 1#12 }
    else s.service
  frame : unchangedExcept [.tracker, .account, .share, .service] s t

theorem recompute_recomputes {b : Bool} {s : State} {w : WorkingCopy} {c : RunCard} {n : Nat}
    (hw : s.store.working = some w) (hc : s.tracker.card = some c) (hn : s.tracker.countdown = some n) :
    s.Recomputes b w c n (recompute b s) := by
  obtain ⟨htracker, hshare, hservice, haccount⟩ := recompute_effect (b := b) hw hc
  obtain ⟨hfollows, hlowered, hlends⟩ := recompute_follows (b := b) hw hc hn
  have hderived : s.derivedNow w c = s.derivedFor w c n := by simp [State.derivedNow, State.derivedFor, hn]
  have hreadiness : s.readinessNow w c = readinessOf c n (s.derivedFor w c n) := by
    simp [State.readinessNow, hn, hderived]
  have haccepting : s.acceptingIn (readinessOf c n (s.derivedFor w c n)) = s.acceptsNow := by
    simp [State.acceptingIn, State.acceptsNow, readinessOf_linked, statusAccepts, statusContactor]
  refine ⟨?_, hfollows, hlowered, hlends, ?_, ?_, ?_, unchangedExcept_of_same⟩
  · rw [htracker, State.recomputed, hreadiness, hderived, haccepting]
  · rw [hshare, cutAllowance_allowance, htracker]
  · rw [haccount]
  · rw [hservice, htracker]

/-! ## The three latest samples (R4) -/

theorem joinThree_eq_drop {α : Type} (x : α) (l : List α) : joinThree x l = (l ++ [x]).drop (l.length - 2) := by
  unfold joinThree
  split
  · rw [show l.length - 2 = 0 by omega, List.drop_zero]
  · rw [List.drop_append_of_le_length (Nat.sub_le _ _)]

theorem joinThree_append {α : Type} (older : List α) (a b x : α) :
    joinThree x (older ++ [a, b]) = [a, b, x] := by
  rw [joinThree_eq_drop]
  simp

/-- The class sampled becomes the confirmed one when the two samples before were of it too. -/
theorem confirm_append {α : Type} [DecidableEq α] (older : List α) (a b x confirmed : α) :
    confirm (joinThree x (older ++ [a, b])) confirmed = if a = b ∧ b = x then x else confirmed := by
  rw [joinThree_append]
  simp [confirm]

theorem confirm_short {α : Type} [DecidableEq α] {l : List α} (h : l.length < 2) (x confirmed : α) :
    confirm (joinThree x l) confirmed = confirmed := by
  match l, h with
  | [], _ => rfl
  | [_], _ => rfl

theorem exists_append_pair {α : Type} {l : List α} (h : 2 ≤ l.length) : ∃ older a b, l = older ++ [a, b] := by
  obtain ⟨a, b, hab⟩ := List.length_eq_two.mp (show (l.drop (l.length - 2)).length = 2 by simp; omega)
  exact ⟨l.take (l.length - 2), a, b, by rw [← hab, List.take_append_drop]⟩

/-- The two cases of R4: three agreeing samples, and any others. -/
theorem confirm_cases {α : Type} [DecidableEq α] (l : List α) (x confirmed : α) :
    (∀ older, l = older ++ [x, x] → confirm (joinThree x l) confirmed = x)
      ∧ ((∀ older, l ≠ older ++ [x, x]) → confirm (joinThree x l) confirmed = confirmed) := by
  refine ⟨fun older h => by rw [h, confirm_append, if_pos ⟨rfl, rfl⟩], fun h => ?_⟩
  by_cases hlength : 2 ≤ l.length
  · obtain ⟨older, a, b, rfl⟩ := exists_append_pair hlength
    rw [confirm_append, if_neg]
    rintro ⟨rfl, rfl⟩
    exact h older rfl
  · exact confirm_short (by omega) x confirmed

/-! ## What the steps of a sample leave (R17) -/

/-- What a sample makes of the vehicle line's samples, classes and loop test before its further steps. -/
def VehicleLine.sensing (v : VehicleLine) :=
  (v.pilotHistory, v.proximityHistory, v.earthHistory, v.pilot, v.proximity, v.earth, v.loopResult, v.loopWindow,
    v.loopErrors, v.loopIndex)

/-- What the steps of a sample after the abort of a loop test leave alone. -/
structure State.SampleKeeps (s t : State) : Prop where
  sensing : t.vehicle.sensing = s.vehicle.sensing
  service : t.service = { s.service with pendingCauses := t.service.pendingCauses }
  loopCause : t.service.pendingCauses.getLsbD 11 = s.service.pendingCauses.getLsbD 11
  frame : unchangedExcept [.vehicle, .tracker, .account, .share, .service] s t

theorem State.SampleKeeps.refl (s : State) : s.SampleKeeps s := ⟨rfl, rfl, rfl, unchangedExcept_refl _ s⟩

theorem State.SampleKeeps.trans {s t u : State} (h : s.SampleKeeps t) (k : t.SampleKeeps u) : s.SampleKeeps u :=
  ⟨k.sensing.trans h.sensing, by rw [k.service, h.service], k.loopCause.trans h.loopCause,
    unchangedExcept_trans h.frame k.frame⟩

theorem halt_sampleKeeps (r : HaltReason) (s : State) : s.SampleKeeps (halt r s) := by
  by_cases hr : s.tracker.readiness = .halted
  · rw [halt_halted hr]
    exact .refl s
  · obtain ⟨hvehicle, -, -, -, hservice⟩ := halt_effect (r := r) hr
    refine ⟨?_, ?_, ?_, unchangedExcept_of_same⟩
    · rw [hvehicle]
      rfl
    · rw [hservice]
    · rw [hservice]
      simp

theorem unplug_sampleKeeps (s : State) : s.SampleKeeps (unplug s) := by
  obtain ⟨hvehicle, -⟩ := unplug_effect s
  refine ⟨?_, by simp, by simp, unchangedExcept_of_same⟩
  rw [hvehicle]
  rfl

theorem confirmNone_sampleKeeps (s : State) : s.SampleKeeps (confirmNone s) := by
  unfold confirmNone
  repeat' split
  · exact unplug_sampleKeeps s
  · exact ⟨rfl, rfl, rfl, unchangedExcept_of_same⟩
  · exact .refl s

theorem checkLinkUp_sampleKeeps (s : State) : s.SampleKeeps (checkLinkUp s) := by
  refine ⟨?_, by simp, by simp, unchangedExcept_of_same⟩
  unfold checkLinkUp
  repeat' split
  all_goals rfl

theorem recompute_sampleKeeps (b : Bool) (s : State) : s.SampleKeeps (recompute b s) := by
  unfold recompute
  split
  · next w c _ _ =>
    refine ⟨by simp, ?_, ?_, unchangedExcept_of_same⟩
    all_goals simp only [updateLending_frame, claimHanded_frame, raiseAtRisk]
    all_goals split <;> simp [withCause, Cause.bit, BitVec.twoPow]
  · exact .refl s

theorem sampleSteps_keep (changed : Bool) (before : VehicleLine) (s : State) :
    s.SampleKeeps (sampleRecompute changed (checkLinkUp (evaluateFaults (sampleUnplugs before s)))) := by
  have hunplugs : s.SampleKeeps (sampleUnplugs before s) := by
    unfold sampleUnplugs
    split
    · exact confirmNone_sampleKeeps s
    · exact .refl s
  have hfaults : ∀ u : State, u.SampleKeeps (evaluateFaults u) := fun u => by
    unfold evaluateFaults
    split
    · cases connectorFault u.vehicle with
      | none => exact .refl u
      | some r => exact halt_sampleKeeps r u
    · exact .refl u
  have hrecompute : ∀ u : State, u.SampleKeeps (sampleRecompute changed u) := fun u => by
    unfold sampleRecompute recomputeIfLinked
    repeat' split
    exacts [recompute_sampleKeeps false u, .refl u, .refl u]
  exact hunplugs.trans ((hfaults _).trans ((checkLinkUp_sampleKeeps _).trans (hrecompute _)))

/-! ## The steps one by one (R17) -/

/-- Whether step 1 of R17 aborts a running loop test. -/
def VehicleLine.aborts (before v : VehicleLine) : Bool :=
  decide (before.loopResult = .running
    ∧ (v.pilot ≠ before.pilot ∨ (v.proximity = .opened ∧ before.proximity ≠ .opened)))

/-- The state after the sample is taken and step 1 of R17. -/
def State.afterAbort (v : VehicleLine) (s : State) : State :=
  (s.setVehicle { v with
      loopResult := if s.vehicle.aborts v then .aborted else s.vehicle.loopResult
      loopWindow := if s.vehicle.aborts v then none else s.vehicle.loopWindow }).setService
    { s.service with
      pendingCauses := if s.vehicle.aborts v then s.service.pendingCauses ||| 2048#12 else s.service.pendingCauses }

theorem sampleAbortsTest_eq {v : VehicleLine} {s : State} (result : v.loopResult = s.vehicle.loopResult)
    (window : v.loopWindow = s.vehicle.loopWindow) :
    sampleAbortsTest s.vehicle (s.setVehicle v) = s.afterAbort v := by
  have hrunning : (s.setVehicle v).loopRunning = true ↔ s.vehicle.loopResult = .running := by
    simp [State.loopRunning, result]
  unfold sampleAbortsTest State.afterAbort
  by_cases haborts : s.vehicle.loopResult = .running
      ∧ (v.pilot ≠ s.vehicle.pilot ∨ (v.proximity = .opened ∧ s.vehicle.proximity ≠ .opened))
  · have hflag : s.vehicle.aborts v = true := decide_eq_true haborts
    rw [if_pos ⟨hrunning.mpr haborts.1, haborts.2⟩, hflag]
    rfl
  · have hflag : s.vehicle.aborts v = false := decide_eq_false haborts
    rw [if_neg fun h => haborts ⟨hrunning.mp h.1, h.2⟩, hflag]
    simp only [Bool.false_eq_true, if_false, ← result, ← window]
    rfl

/-- One sample, step by step. -/
theorem connectorSampled_eq (p : PilotClass) (x : Proximity) (e : Earth) (s : State) :
    connectorSampled p x e s
      = sampleRecompute ((s.setVehicle (s.vehicle.sampled p x e)).accepting != s.accepting)
          (checkLinkUp (evaluateFaults (sampleUnplugs s.vehicle (s.afterAbort (s.vehicle.sampled p x e))))) := by
  rw [← sampleAbortsTest_eq (v := s.vehicle.sampled p x e) rfl rfl]
  rfl

theorem afterAbort_sensing (v : VehicleLine) (s : State) :
    (s.afterAbort v).vehicle.sensing =
      (v.pilotHistory, v.proximityHistory, v.earthHistory, v.pilot, v.proximity, v.earth,
        if s.vehicle.aborts v then .aborted else s.vehicle.loopResult,
        if s.vehicle.aborts v then none else s.vehicle.loopWindow, v.loopErrors, v.loopIndex) := rfl

/-- The blocks that a sample and step 1 leave. -/
@[simp] theorem afterAbort_frame (v : VehicleLine) (s : State) :
    (s.afterAbort v).tracker = s.tracker ∧ (s.afterAbort v).account = s.account ∧ (s.afterAbort v).link = s.link
      ∧ (s.afterAbort v).peers = s.peers ∧ (s.afterAbort v).share = s.share ∧ (s.afterAbort v).reserve = s.reserve
      ∧ (s.afterAbort v).composer = s.composer ∧ (s.afterAbort v).store = s.store ∧ (s.afterAbort v).clock = s.clock
      ∧ (s.afterAbort v).freeDraws = s.freeDraws ∧ (s.afterAbort v).pending = s.pending := by
  and_intros <;> rfl

theorem sampleUnplugs_of_connected {before : VehicleLine} {s : State} (h : s.vehicle.pilot ≠ .none) :
    sampleUnplugs before s = s := by
  rw [sampleUnplugs, if_neg fun hc => h hc.1]

theorem evaluateFaults_of_sound {s : State} (h : connectorFault s.vehicle = none) : evaluateFaults s = s := by
  simp [evaluateFaults, h]

theorem checkLinkUp_of_not {s : State} (h : s.canLinkUp = false) : checkLinkUp s = s := by
  cases hw : s.store.working with
  | none => simp [checkLinkUp, hw]
  | some w => exact (checkLinkUp_effect s w hw).2 h

theorem canLinkUp_of_session {s : State} (h : s.tracker.readiness ≠ .vacant) : s.canLinkUp = false := by
  simp [State.canLinkUp, h]

theorem canLinkUp_of_none {s : State} (h : s.vehicle.pilot = .none) : s.canLinkUp = false := by
  simp [State.canLinkUp, h]

theorem sampleRecompute_of_unlinked {changed : Bool} {s : State} (h : s.tracker.readiness.linked = false) :
    sampleRecompute changed s = s := by
  simp [sampleRecompute, recomputeIfLinked, h]

theorem connectorFault_of_none {v : VehicleLine} (h : v.pilot = .none) : connectorFault v = none := by
  simp [connectorFault, h]

theorem connectorFault_of_whole {v : VehicleLine} (hpilot : v.pilot = .present ∨ v.pilot = .energy)
    (hproximity : v.proximity = .closed) (hearth : v.earth = .ok) : connectorFault v = none := by
  rcases hpilot with h | h <;> simp [connectorFault, h, hproximity, hearth]

/-- Settles O10: no fault and no NONE stand in the way of the link-up, and no recompute follows it. -/
theorem connectedVehicleStartsLinkUp : Obligations.ConnectedVehicleStartsLinkUp := by
  intro s w millivolts latch earth v aborts hw hrole hstation hvacant hv haborts hpilot hproximity hearth
  have hflag : s.vehicle.aborts v = aborts := haborts.symm
  have hconnected : (s.afterAbort v).vehicle.pilot ≠ .none := by
    rcases hpilot with h | h <;> simp [State.afterAbort, h]
  have hwhole : connectorFault (s.afterAbort v).vehicle = none := connectorFault_of_whole hpilot hproximity hearth
  have hcan : (s.afterAbort v).canLinkUp = true := by
    have hrunning : s.link.station == .listening || s.link.station == .running := by
      rcases hstation with h | h <;> simp [h]
    have henergy : v.pilot == .present || v.pilot == .energy := by
      rcases hpilot with h | h <;> simp [h]
    have hpost : (s.afterAbort v).isPost = true := isPost_of_role (w := w) (by simpa using hw) hrole
    simp only [State.canLinkUp, hpost, afterAbort_frame, hvacant, hrunning]
    exact henergy
  obtain ⟨hvehicle, htracker, haccount⟩ := (checkLinkUp_effect (s.afterAbort v) w (by simpa using hw)).1 hcan
  have hexec : exec (.connectorSample millivolts latch earth) s = .next (checkLinkUp (s.afterAbort v)) := by
    simp only [exec, execConnectorSample, connectorSampled_eq, ← hv]
    rw [sampleUnplugs_of_connected hconnected, evaluateFaults_of_sound hwhole,
      sampleRecompute_of_unlinked (by rw [htracker]; rfl)]
  refine ⟨_, hexec, ?_, ?_, haccount, ?_, unchangedExcept_of_same⟩
  · rw [hvehicle, ← hflag, hv]
    rfl
  · rw [htracker]
    rfl
  · rw [← hflag]
    simp
    rfl

/-- Settles O11: the first reason halts, and the halted state is left alone by the steps after it. -/
theorem standingFaultHalts : Obligations.StandingFaultHalts := by
  intro s millivolts latch earth v r aborts hpost hstation hr hv haborts hfault
  have hflag : s.vehicle.aborts v = aborts := haborts.symm
  have hreason : connectorFault (s.afterAbort v).vehicle = some r := hfault.symm
  have hconnected : (s.afterAbort v).vehicle.pilot ≠ .none := by
    intro hnone
    rw [connectorFault_of_none hnone] at hreason
    exact nomatch hreason
  have hactive : s.link.station.active = true := by
    rcases hstation with h | h | h <;> rw [h] <;> rfl
  have hfaults : evaluateFaults (s.afterAbort v) = halt r (s.afterAbort v) := by
    have hpost' : (s.afterAbort v).isPost = true := (isPost_of_same (by simp)).trans hpost
    simp [evaluateFaults, hpost', hactive, hreason]
  have hr' : (s.afterAbort v).tracker.readiness ≠ .halted := by simpa using hr
  obtain ⟨hvehicle, htracker, haccount, hshare, hservice⟩ := halt_effect (r := r) hr'
  have hhalted : (halt r (s.afterAbort v)).tracker.readiness = .halted := by rw [htracker]; rfl
  have hexec : exec (.connectorSample millivolts latch earth) s = .next (halt r (s.afterAbort v)) := by
    simp only [exec, execConnectorSample, connectorSampled_eq, ← hv]
    rw [sampleUnplugs_of_connected hconnected, hfaults, checkLinkUp_of_not (canLinkUp_of_session (by simp [hhalted])),
      sampleRecompute_of_unlinked (by rw [hhalted]; rfl)]
  have hlowered := loweredTo_setAllowance 0 s.share
  simp only [afterAbort_frame] at hshare haccount htracker
  rw [← hshare] at hlowered
  refine ⟨_, hexec, ?_, htracker, haccount, ?_, fun hpositive => hlowered.released hpositive (by simp), ?_,
    unchangedExcept_of_same⟩
  · rw [hvehicle, ← hflag, hv]
    rfl
  · rw [hshare, cutAllowance_allowance]
    simp
  · rw [hservice]
    cases hflag' : s.vehicle.aborts v
    all_goals
      rw [← hflag, hflag']
      simp only [State.afterAbort, hflag', State.setService_service, Service.mk.injEq, and_true]
    · rfl
    · simp only [if_true, BitVec.or_assoc]
      rfl

theorem egapNow_eq {s : State} {egap : Option Nat}
    (h : egap = (match s.store.working, s.tracker.card, s.account.enow with
      | some w, some card, some enow => some (card.eroute + w.margin - enow)
      | _, _, _ => none)) : s.egapNow = egap := by
  rw [h, State.egapNow]
  cases s.store.working <;> cases s.tracker.card <;> cases s.account.enow <;> rfl

/-- Settles O12: the end of the session or of the halt, which the later steps of the sample find VACANT. -/
theorem confirmedNoneEndsTheSession : Obligations.ConfirmedNoneEndsTheSession := by
  intro s millivolts latch earth v after service o egap hv hafter hservice hnone hconnected hegap ho
  have hflag : s.vehicle.aborts v = decide (s.vehicle.loopResult = .running) := by
    simp [VehicleLine.aborts, hnone, hconnected.symm]
  have hafter' : (s.afterAbort v).vehicle = after := by
    rw [hafter, State.afterAbort, hflag]
    by_cases hrunning : s.vehicle.loopResult = .running <;> simp [hrunning, hv, VehicleLine.sampled]
  have hservice' : (s.afterAbort v).service = service := by
    simp [hservice, State.afterAbort, hflag]
  have hunplugs : sampleUnplugs s.vehicle (s.afterAbort v) = confirmNone (s.afterAbort v) := by
    rw [sampleUnplugs, if_pos ⟨hnone, hconnected⟩]
  have hkept := confirmNone_sampleKeeps (s.afterAbort v)
  have hpilot : (confirmNone (s.afterAbort v)).vehicle.pilot = .none :=
    (congrArg (fun x => x.2.2.2.1) hkept.sensing).trans hnone
  have hexec : (confirmNone (s.afterAbort v)).tracker.readiness.linked = false →
      exec (.connectorSample millivolts latch earth) s = .next (confirmNone (s.afterAbort v)) := by
    intro hunlinked
    simp only [exec, execConnectorSample, connectorSampled_eq, ← hv]
    rw [hunplugs, evaluateFaults_of_sound (connectorFault_of_none hpilot), checkLinkUp_of_not (canLinkUp_of_none hpilot),
      sampleRecompute_of_unlinked hunlinked]
  have hopen' : (s.afterAbort v).vehicle.sessionOpen = s.vehicle.sessionOpen := by rw [hv]; rfl
  rcases Bool.eq_false_or_eq_true s.vehicle.sessionOpen with hopen | hclosed
  · have hend : confirmNone (s.afterAbort v) = unplug (s.afterAbort v) := by
      rw [confirmNone, if_pos (hopen'.trans hopen)]
    obtain ⟨hvehicle, htracker, haccount, hshare⟩ := unplug_effect (s.afterAbort v)
    rw [hend] at hexec
    have hrecord : (s.afterAbort v).sessionRecord =
        { vehicleId := s.vehicle.vehicleId, outcome := o, energyIn := s.account.energyIn
          energyOut := s.account.energyOut, atRiskMinutes := s.tracker.atRiskMinutes
          haltReason := if o = .halted then s.tracker.haltReason else none } := by
      have hsettled : (s.afterAbort v).settledOutcome = o := by
        rw [ho, ← egapNow_eq hegap]
        rfl
      rw [State.sessionRecord, hsettled, hv]
      rfl
    have hlowered := loweredTo_setAllowance 0 s.share
    simp only [afterAbort_frame] at hshare htracker
    rw [← hshare] at hlowered
    refine ⟨_, hexec (by rw [htracker]; rfl), fun _ => ⟨by simp [hservice'], ?_, ?_, haccount, ?_, hlowered,
      unchangedExcept_of_same⟩, fun h => by simp [hopen] at h, fun h => by simp [hopen] at h⟩
    · rw [hvehicle, hafter', VehicleLine.clearSession, VehicleLine.close]
      have hwaiting : after.waiting = s.vehicle.waiting := by rw [← hafter', hv]; rfl
      have hsession : after.session = s.vehicle.session := by rw [← hafter', hv]; rfl
      have hopen'' : after.sessionOpen = true := by rw [← hafter']; exact hopen'.trans hopen
      simp [hwaiting, hsession, hopen'', withoutPermit]
    · rw [htracker, hrecord]
      rfl
    · rw [hshare, cutAllowance_allowance]
      simp
  · have hclosed' : ¬(s.afterAbort v).vehicle.sessionOpen = true := by simp [hopen', hclosed]
    by_cases hhalted : s.tracker.readiness = .halted
    · have hend : confirmNone (s.afterAbort v) = (s.afterAbort v).setTracker s.tracker.vacate := by
        rw [confirmNone, if_neg hclosed', if_pos (by simpa using hhalted)]
        simp
      rw [hend] at hexec
      refine ⟨_, hexec rfl, fun h => by simp [hclosed] at h, fun _ _ => ⟨hafter', hservice', rfl,
        unchangedExcept_of_same⟩, fun _ h => by simp [hhalted] at h⟩
    · have hend : confirmNone (s.afterAbort v) = s.afterAbort v := by
        rw [confirmNone, if_neg hclosed', if_neg (by simpa using hhalted)]
      by_cases hvacant : s.tracker.readiness = .vacant
      · rw [hend] at hexec
        exact ⟨_, hexec (by simp [hvacant, Readiness.linked]), fun h => by simp [hclosed] at h,
          fun _ h => absurd h hhalted, fun _ _ => ⟨hafter', hservice', unchangedExcept_of_same⟩⟩
      · exact ⟨_, rfl, fun h => by simp [hclosed] at h, fun _ h => absurd h hhalted, fun _ h => absurd h hvacant⟩

/-! ## What every sample gives, and the accepting condition (R3, R4, R15) -/

/-- In a session that stays linked, a sample that changes the accepting condition leaves the recompute of step 1's
state (assumption 7). -/
theorem connectorSampled_recomputes {p : PilotClass} {x : Proximity} {e : Earth} {s : State}
    (hlinked : s.tracker.readiness.linked = true) {status : WireStatus} (hstatus : s.vehicle.lastStatus = some status)
    (haccepts : status.flags.getLsbD 0 = true) (hcontactor : status.flags.getLsbD 1 = true)
    (hchange : ((s.vehicle.sampled p x e).pilot = .present ∧ s.vehicle.pilot = .energy)
      ∨ ((s.vehicle.sampled p x e).pilot = .energy ∧ s.vehicle.pilot ≠ .energy))
    (hproximity : (s.vehicle.sampled p x e).proximity = .closed) (hearth : (s.vehicle.sampled p x e).earth = .ok) :
    connectorSampled p x e s = recompute false (s.afterAbort (s.vehicle.sampled p x e)) := by
  have hpilot : (s.vehicle.sampled p x e).pilot = .present ∨ (s.vehicle.sampled p x e).pilot = .energy :=
    hchange.imp And.left And.left
  have hconnected : (s.afterAbort (s.vehicle.sampled p x e)).vehicle.pilot ≠ .none := by
    rcases hpilot with h | h <;> simp [State.afterAbort, h]
  have hchanged : ((s.setVehicle (s.vehicle.sampled p x e)).accepting != s.accepting) = true := by
    have hkept : (s.vehicle.sampled p x e).lastStatus = some status := hstatus
    rcases hchange with ⟨hnew, hold⟩ | ⟨hnew, hold⟩ <;>
      simp [State.accepting, hlinked, hkept, hstatus, hnew, hold, statusAccepts, statusContactor, haccepts, hcontactor]
  have hlinked' : (s.afterAbort (s.vehicle.sampled p x e)).tracker.readiness.linked = true := by simpa using hlinked
  rw [connectorSampled_eq, sampleUnplugs_of_connected hconnected,
    evaluateFaults_of_sound (connectorFault_of_whole hpilot hproximity hearth),
    checkLinkUp_of_not (canLinkUp_of_session (linked_ne_vacant hlinked')), hchanged]
  simp [sampleRecompute, recomputeIfLinked, hlinked]

/-- Settles O9: the classes and the loop test from what the later steps keep, and the claim from the recompute. -/
theorem threeAgreeingSamplesConfirm : Obligations.ThreeAgreeingSamplesConfirm := by
  intro s millivolts latch earth p x e aborts hp hx he haborts
  have hp' : p = pilotClassOf millivolts := hp
  have hx' : x = proximityOf latch := hx
  have he' : e = earthOf earth := he
  have hflag : s.vehicle.aborts (s.vehicle.sampled p x e) = aborts := haborts.symm
  have hkept := sampleSteps_keep ((s.setVehicle (s.vehicle.sampled p x e)).accepting != s.accepting) s.vehicle
    (s.afterAbort (s.vehicle.sampled p x e))
  rw [← connectorSampled_eq] at hkept
  have hexec : exec (.connectorSample millivolts latch earth) s = .next (connectorSampled p x e s) := by
    rw [hp', hx', he']
    rfl
  generalize ht : connectorSampled p x e s = t at hkept hexec
  have hsensing := hkept.sensing
  rw [afterAbort_sensing, hflag] at hsensing
  simp only [VehicleLine.sensing, Prod.mk.injEq] at hsensing
  obtain ⟨hpilots, hproximities, hearths, hpilot, hproximity, hearth, hresult, hwindow, herrors, hindex⟩ := hsensing
  obtain ⟨hpilotSame, hpilotKept⟩ := confirm_cases s.vehicle.pilotHistory p s.vehicle.pilot
  obtain ⟨hproximitySame, hproximityKept⟩ := confirm_cases s.vehicle.proximityHistory x s.vehicle.proximity
  obtain ⟨hearthSame, hearthKept⟩ := confirm_cases s.vehicle.earthHistory e s.vehicle.earth
  refine ⟨t, hexec, hp', hx', he', hpilots.trans (joinThree_eq_drop _ _), hproximities.trans (joinThree_eq_drop _ _),
    hearths.trans (joinThree_eq_drop _ _), fun older h => hpilot.trans (hpilotSame older h),
    fun h => hpilot.trans (hpilotKept h), fun older h => hproximity.trans (hproximitySame older h),
    fun h => hproximity.trans (hproximityKept h), fun older h => hearth.trans (hearthSame older h),
    fun h => hearth.trans (hearthKept h), hresult, hwindow, herrors, hindex, ?_, ?_, ?_, ?_, ?_⟩
  · rw [hkept.service]
    rfl
  · rw [hkept.loopCause]
    cases aborts <;> simp [State.afterAbort, hflag]
  · rw [hpilots, hproximities, hearths, hpilot, hproximity, hearth]
    rfl
  · intro w c n status d hw hc hn hlinked hstatus haccepts hcontactor hchange hclosed hok hd
    rw [hpilot] at hchange
    rw [hproximity] at hclosed
    rw [hearth] at hok
    have hrecompute := connectorSampled_recomputes hlinked hstatus haccepts hcontactor hchange hclosed hok
    have hvalues := recompute_recomputes (b := false) (s := s.afterAbort (s.vehicle.sampled p x e)) (w := w) (c := c)
      (n := n) (by simpa using hw) (by simpa using hc) (by simpa using hn)
    rw [← hrecompute, ht] at hvalues
    have hstatus' : (s.afterAbort (s.vehicle.sampled p x e)).vehicle.lastStatus = some status := hstatus
    have hderived : (s.afterAbort (s.vehicle.sampled p x e)).derivedFor w c n = d := by
      simp [State.derivedFor, State.pvmax, State.ecap, hstatus', hd]
    have haccepts' : (s.afterAbort (s.vehicle.sampled p x e)).acceptsNow = decide (t.vehicle.pilot = .energy) := by
      have hpilot' : (s.afterAbort (s.vehicle.sampled p x e)).vehicle.pilot = t.vehicle.pilot := hpilot.symm
      simp only [State.acceptsNow, hstatus', hpilot', Option.any_some, haccepts, hcontactor, Bool.and_true]
      rfl
    obtain ⟨htracker, hfollows, hlowered, hlends, hallowance, -, -, -⟩ := hvalues
    rw [hderived, haccepts'] at htracker
    simp only [afterAbort_frame] at htracker hfollows hlowered hallowance
    refine ⟨?_, ?_, ?_, ?_, hallowance, hfollows, hlowered, hlends⟩
    all_goals rw [htracker]
  · exact unchangedExcept_trans unchangedExcept_of_same hkept.frame

end Sys2Proof.Machine


/-! PROOFS. The frames of a session, its timers and the loop test (1.3, 1.4, 1.6, 1.8, Chapter 2). -/

namespace Sys2Proof.Machine

/-- Two frames in a row, each for a part of the blocks listed. -/
theorem unchangedExcept_comp {l m n : List Block} {s t u : State} (h : unchangedExcept l s t)
    (k : unchangedExcept m t u) (hl : ∀ b ∈ l, b ∈ n) (hm : ∀ b ∈ m, b ∈ n) : unchangedExcept n s u :=
  unchangedExcept_trans (unchangedExcept_mono h hl) (unchangedExcept_mono k hm)

/-- A block that turns out the same leaves the list. -/
theorem unchangedExcept_drop {a : Block} {l : List Block} {s t : State} (h : unchangedExcept (a :: l) s t)
    (ha : a.same s t) : unchangedExcept l s t := by
  intro b hb
  by_cases hab : b = a
  · exact hab ▸ ha
  · exact h b (by simp [hab, hb])

/-! ## Link-up (R7 to R9) -/

/-- Settles O13: the third HELLO decides between another and the halt. -/
theorem unansweredHelloIsRepeatedThenHalts : Obligations.UnansweredHelloIsRepeatedThenHalts := by
  intro s w hw
  refine ⟨fun hnot => ?_, fun hdue hlinking => ?_⟩
  · have hcond : ¬(due s.vehicle.helloTimer && s.tracker.readiness == .linking) = true := by
      simp only [Bool.and_eq_true, due_iff, beq_iff_eq]
      tauto
    simp only [exec, execHelloReplyTimerExpiry, helloReplyExpired, if_neg hcond]
  · have hexec : exec .helloReplyTimerExpiry s = .next (helloUnanswered s) := by
      simp [exec, execHelloReplyTimerExpiry, helloReplyExpired, hdue, hlinking]
    refine ⟨_, hexec, fun hmore => ?_, fun hlast => ?_⟩
    · have hrepeat : helloUnanswered s = s.setVehicle (s.vehicle.repeatHello w) := by
        simp [helloUnanswered, hw, hmore]
      rw [hrepeat]
      exact ⟨rfl, unchangedExcept_of_same⟩
    · have hhalt : helloUnanswered s = halt .linkup s := by
        simp [helloUnanswered, hw, show ¬s.vehicle.helloCount < 3 by omega]
      have hlive : s.tracker.readiness ≠ .halted := by simp [hlinking]
      rw [hhalt]
      refine ⟨halt_halts hlive, ?_, unchangedExcept_of_same⟩
      rw [(halt_effect hlive).2.2.2.1, cutAllowance_allowance, Nat.min_zero]

/-! ## Forward frames (10.4, 10.6) -/

theorem bytesOfWord_ofNat {n : Nat} (h : n ≤ 65535) :
    bytesOfWord (BitVec.ofNat 16 n) = [BitVec.ofNat 8 (n % 256), BitVec.ofNat 8 (n / 256)] := by
  have hlow : (BitVec.ofNat 16 n).setWidth 8 = BitVec.ofNat 8 (n % 256) := by
    apply BitVec.eq_of_toNat_eq
    simp only [BitVec.toNat_setWidth, BitVec.toNat_ofNat]
    omega
  have hhigh : ((BitVec.ofNat 16 n) >>> 8).setWidth 8 = BitVec.ofNat 8 (n / 256) := by
    apply BitVec.eq_of_toNat_eq
    simp only [BitVec.toNat_setWidth, BitVec.toNat_ushiftRight, BitVec.toNat_ofNat, Nat.shiftRight_eq_div_pow]
    omega
  rw [bytesOfWord, hlow, hhigh]

theorem nat16_eq {n : Nat} (h : n ≤ 65535) : nat16 n = [BitVec.ofNat 8 (n % 256), BitVec.ofNat 8 (n / 256)] := by
  rw [nat16, wordOfNat, Nat.min_eq_left h, bytesOfWord_ofNat h]

theorem bytesOfWord_ofInt (x : Int) :
    bytesOfWord (BitVec.ofInt 16 x) = [BitVec.ofInt 8 (x % 256), BitVec.ofInt 8 (x / 256)] := by
  have hlow : (BitVec.ofInt 16 x).setWidth 8 = BitVec.ofInt 8 (x % 256) := by
    apply BitVec.eq_of_toNat_eq
    simp only [BitVec.toNat_setWidth, BitVec.toNat_ofInt]
    omega
  have hhigh : ((BitVec.ofInt 16 x) >>> 8).setWidth 8 = BitVec.ofInt 8 (x / 256) := by
    apply BitVec.eq_of_toNat_eq
    simp only [BitVec.toNat_setWidth, BitVec.toNat_ushiftRight, BitVec.toNat_ofInt, Nat.shiftRight_eq_div_pow]
    omega
  rw [bytesOfWord, hlow, hhigh]

theorem int16_eq {x : Int} (hlow : -32768 ≤ x) (hhigh : x ≤ 32767) :
    int16 x = [BitVec.ofInt 8 (x % 256), BitVec.ofInt 8 (x / 256)] := by
  rw [int16, wordOfInt, show clampInt (-32768) 32767 x = x by simp only [clampInt]; omega, bytesOfWord_ofInt]

theorem byteOf_eq {n : Nat} (h : n ≤ 255) : byteOf n = BitVec.ofNat 8 n := by rw [byteOf, Nat.min_eq_left h]

/-- Settles O14: the bytes of each frame, then the two cases of the waiting frames. -/
theorem forwardFramesLeaveInOrder : Obligations.ForwardFramesLeaveInOrder := by
  refine ⟨?_, ?_, ?_, fun s => ⟨_, rfl, fun hempty => ⟨fun hrun hclosed => ?_, fun hnot => ?_⟩, fun f rest hwaiting => ?_⟩⟩
  · rintro session station prated body hstation hprated rfl
    simp [ForwardFrame.characters, sealFrame, byteOf_eq hstation, nat16_eq hprated]
  · rintro session demand body hlow hhigh rfl
    simp [ForwardFrame.characters, sealFrame, int16_eq hlow hhigh]
  · rintro session code reason body hmem rfl
    simp only [List.mem_cons, Prod.mk.injEq, List.not_mem_nil, or_false] at hmem
    rcases hmem with ⟨rfl, rfl⟩ | ⟨rfl, rfl⟩ | ⟨rfl, rfl⟩ | ⟨rfl, rfl⟩ | ⟨rfl, rfl⟩ | ⟨rfl, rfl⟩ | ⟨rfl, rfl⟩ | ⟨rfl, rfl⟩
      | ⟨rfl, rfl⟩ | ⟨rfl, rfl⟩ | ⟨rfl, rfl⟩ | ⟨rfl, rfl⟩ | ⟨rfl, rfl⟩ | ⟨rfl, rfl⟩
    all_goals rfl
  · have hsent : forwardFrameSent s = s.setVehicle s.vehicle.sendTestFrame := by
      simp [forwardFrameSent, hempty, State.loopRunning, hrun, hclosed]
    rw [hsent]
    exact ⟨rfl, unchangedExcept_of_same⟩
  · have hcond : ¬(s.loopRunning && s.vehicle.loopWindow.isNone) = true := by
      simp only [State.loopRunning, Bool.and_eq_true, beq_iff_eq, Option.isNone_iff_eq_none]
      tauto
    simp only [forwardFrameSent, hempty, if_neg hcond]
  · have hsent : forwardFrameSent s = s.setVehicle { s.vehicle with
        waiting := rest, tx := f.characters
        helloTimer := helloTimerAfter f s.tracker.readiness s.vehicle.helloTimer } := by
      simp only [forwardFrameSent, hwaiting]
    rw [hsent]
    refine ⟨rfl, ?_, ?_, ?_, unchangedExcept_of_same⟩
    all_goals intros; subst_vars; rfl

/-! ## Cards and STATUS (R9, R13, R14, R27) -/

/-- A card in its normal form, field by field (R27). -/
theorem ofWire_eq {card : WireCard} {c : RunCard}
    (departure : c.departure = if 1441 ≤ card.departure.toNat ∧ card.departure.toNat ≤ 65534 then 1440
      else card.departure.toNat)
    (eroute : c.eroute = card.eroute.toNat)
    (conditioning : c.conditioning = if card.conditioningPresent = 0 ∨ card.tcond = 0 then none
      else some { pcond := card.pcond.toNat, tcond := if 60 < card.tcond.toNat then 60 else card.tcond.toNat }) :
    RunCard.ofWire card = c := by
  have hdeparture : (if card.departure.toNat = 65535 then 65535 else min card.departure.toNat 1440) = c.departure := by
    have := card.departure.isLt
    rw [departure]
    split <;> split <;> omega
  have htcond : min card.tcond.toNat 60 = if 60 < card.tcond.toNat then 60 else card.tcond.toNat := by
    split <;> omega
  have habsent : card.tcond.toNat = 0 ↔ card.tcond = 0 := by
    rw [← BitVec.toNat_inj]
    rfl
  cases c
  simp only at departure eroute conditioning hdeparture
  simp only [RunCard.ofWire, hdeparture, ← eroute, htcond, habsent, ← conditioning]

/-- The departure of a card in its normal form (R27). -/
theorem departure_range {card : WireCard} {n : Nat}
    (h : n = if 1441 ≤ card.departure.toNat ∧ card.departure.toNat ≤ 65534 then 1440 else card.departure.toNat) :
    n ≤ 1440 ∨ n = 65535 := by
  have := card.departure.isLt
  rw [h]
  split <;> omega

/-- The minute timer that a normalised departure calls for (R29). -/
theorem minuteTimerFor_departure {n : Nat} (h : n ≤ 1440 ∨ n = 65535) :
    minuteTimerFor n = if n = 0 ∨ n = 65535 then none else some 60000000 := by
  unfold minuteTimerFor
  by_cases hstopped : n = 0 ∨ n = 65535
  · rw [if_neg (by omega), if_pos hstopped]
  · rw [if_pos (by omega), if_neg hstopped]
    rfl

/-- The tracker with a new card in its normal form (R28, R29). -/
theorem withCard_eq {c : RunCard} (h : c.departure ≤ 1440 ∨ c.departure = 65535) (t : Tracker) :
    t.withCard c = { t with
      card := some c, countdown := some c.departure
      minuteTimer := if c.departure = 0 ∨ c.departure = 65535 then none else some 60000000
      planMark := t.planMark || decide (c.departure ≠ 65535) } := by
  have hplanned : (c.departure != noRun) = decide (c.departure ≠ 65535) := by simp [noRun, bne, beq_eq_decide]
  rw [Tracker.withCard, minuteTimerFor_departure h, hplanned]

/-- With no STATUS and no estimate the readiness is decided by the card alone (R37). -/
theorem readinessOf_pending {c : RunCard} {d : Derived} (hegap : d.egap = none)
    (hwindow : d.windowOpen = windowOf c c.departure) :
    readinessOf c c.departure d = if c.departure = 65535 then .unplanned else if c.departure = 0 then .due
      else if c.conditioning.any (fun k => decide (c.departure ≤ k.tcond)) then .conditioning else .charging := by
  unfold readinessOf noRun
  by_cases hzero : c.departure = 0
  · simp [hzero]
  · simp [hegap, hwindow, windowOf, hzero, Nat.pos_of_ne_zero hzero]

/-- With no STATUS and no estimate urgency and claim follow from the readiness (R35, R36). -/
theorem pending_values {w : WorkingCopy} {c : RunCard} {d : Derived} (hegap : d.egap = none)
    (hwindow : d.windowOpen = windowOf c c.departure) (pcond pderated : Nat) :
    urgencyOf w (readinessOf c c.departure d) d =
        (if c.departure = 65535 ∨ c.departure = 0 then 0
        else if c.conditioning.any (fun k => decide (c.departure ≤ k.tcond)) then 3 else 1)
      ∧ claimOf (readinessOf c c.departure d) d none false pcond pderated =
        (if readinessOf c c.departure d = .conditioning then min pcond pderated else 0)
      ∧ readinessOf c c.departure d ≠ .topped ∧ readinessOf c c.departure d ≠ .atRisk := by
  rw [readinessOf_pending hegap hwindow]
  by_cases hnorun : c.departure = 65535
  · simp [hnorun, urgencyOf, claimOf]
  by_cases hzero : c.departure = 0
  · simp [hzero, urgencyOf, claimOf]
  have hopen : d.windowOpen = c.conditioning.any fun k => decide (c.departure ≤ k.tcond) := by
    simp [hwindow, windowOf, Nat.pos_of_ne_zero hzero]
  rw [← hopen]
  cases hcase : d.windowOpen <;> simp [hnorun, hzero, urgencyOf, claimOf, hegap, hcase]

/-- Settles O15: the recompute of a session that has its card and no STATUS. -/
theorem identCompletesLinkUp : Obligations.IdentCompletesLinkUp := by
  intro s id card hstopped
  have hexec : exec (.identReceived id card) s = .next (takeIdent id card s) := by
    simp [exec, execIdentReceived, receiveBack, State.loopRunning, hstopped]
  refine ⟨fun hnot => by rw [hexec, takeIdent, if_neg hnot], ?_⟩
  intro w c hlinking hw hstatus henow hdeparture heroute hconditioning
  have hcard := ofWire_eq hdeparture heroute hconditioning
  obtain ⟨u, hu⟩ : ∃ u, u = startWatchdog
      ((s.setVehicle { s.vehicle with helloTimer := none, vehicleId := some id }).setTracker (s.tracker.withCard c)) :=
    ⟨_, rfl⟩
  have htaken : takeIdent id card s = recompute true u := by
    rw [takeIdent, if_pos hlinking, storeCard, startWatchdog_recompute, hcard, hu]
    rfl
  have hvehicle : u.vehicle =
      { s.vehicle with helloTimer := none, vehicleId := some id, watchdog := some (w.vwd * 1000) } := by
    rw [hu]
    simp [startWatchdog, State.watchdogTime, hw]
  have htracker : u.tracker = { s.tracker with
      card := some c, countdown := some c.departure
      minuteTimer := if c.departure = 0 ∨ c.departure = 65535 then none else some 60000000
      planMark := s.tracker.planMark || decide (c.departure ≠ 65535) } := by
    rw [← withCard_eq (departure_range hdeparture), hu]
    rfl
  have hframe : unchangedExcept [.vehicle, .tracker] s u := by rw [hu]; exact unchangedExcept_of_same
  obtain ⟨hresult, hfollows, hlowered, hlends, -, haccount, hservice, hchanged⟩ :=
    recompute_recomputes (b := true) (s := u) (w := w) (c := c) (n := c.departure) (by rw [hu]; simpa using hw)
      (by rw [htracker]) (by rw [htracker])
  have hushare : u.share = s.share := by rw [hu]; simp
  have huaccount : u.account = s.account := by rw [hu]; simp
  have hucomposer : u.composer = s.composer := by rw [hu]; simp
  have huservice : u.service = s.service := by rw [hu]; simp
  have hpending : u.derivedFor w c c.departure = derivedOf w c c.departure none 0 s.composer.pderated 0 := by
    simp [State.derivedFor, State.pvmax, State.ecap, hvehicle, hstatus, huaccount, henow, hucomposer]
  have hidle : u.acceptsNow = false := by simp [State.acceptsNow, hvehicle, hstatus]
  have hreadiness := readinessOf_pending (c := c) (d := derivedOf w c c.departure none 0 s.composer.pderated 0) rfl rfl
  obtain ⟨hurgency, hclaim, htopped, hrisk⟩ := pending_values (w := w) (c := c)
    (d := derivedOf w c c.departure none 0 s.composer.pderated 0) rfl rfl c.pcond s.composer.pderated
  have houtcome : ∀ r, outcomeAfter true u.tracker r (derivedOf w c c.departure none 0 s.composer.pderated 0)
      = s.tracker.outcome := by
    intro r
    simp [outcomeAfter, derivedOf, htracker]
  rw [hpending, hidle, huaccount, henow, hucomposer, houtcome, hurgency, hclaim] at hresult
  rw [hexec, htaken]
  generalize recompute true u = t at hresult hfollows hlowered hlends haccount hservice hchanged ⊢
  rw [huaccount] at hfollows haccount
  rw [henow] at hfollows
  rw [hushare] at hlowered
  rw [huservice] at hservice
  have hr : t.tracker.readiness = readinessOf c c.departure (derivedOf w c c.departure none 0 s.composer.pderated 0) := by
    rw [hresult]
  have hunlent := hlends.notTopped (by rw [hr]; exact htopped)
  refine ⟨t, rfl, ?_, ?_, ?_, ?_, ?_, ?_, ?_, hr.trans hreadiness, ?_, ⟨_, congrArg Tracker.derived hresult, rfl, rfl, rfl, rfl, ?_⟩,
    ?_, ?_, hfollows, hlowered, ?_, ?_⟩
  · exact (hchanged .vehicle (by decide)).trans hvehicle
  · rw [hresult, htracker]
  · rw [hresult, htracker]
  · rw [hresult, htracker]
  · rw [hresult, htracker]
  · rw [hresult]
  · rw [hresult, htracker]
  · rw [hresult]
  · exact (congrArg (· / 100) (Nat.zero_mul _)).trans (Nat.zero_div _)
  · rw [hr, hresult]
    rfl
  · rw [hresult, htracker]
  · rw [haccount, hunlent.1, hunlent.2.1, hunlent.2.2]
  · have hquiet : t.service = s.service := by rw [hservice, if_neg fun h => hrisk (hr.symm.trans h.1)]
    exact unchangedExcept_drop (a := .service) (unchangedExcept_comp hframe hchanged (by decide) (by decide)) hquiet

/-! ## STATUS (R13, R54, R55) -/

/-- A tracker's readiness and urgency with the energy gap known (R35, R37). -/
theorem readinessOf_known {c : RunCard} {n gap tmin : Nat} {d : Derived} (hegap : d.egap = some gap)
    (hslack : d.slack = if n = 65535 then none else some ((n : Int) - tmin)) :
    readinessOf c n d = if c.departure = 65535 then .unplanned else if n = 0 then .due
      else if d.windowOpen then .conditioning else if gap = 0 then .topped
      else if n ≠ 65535 ∧ n < tmin then .atRisk else .charging := by
  have hlate : d.slack.any (· < 0) = true ↔ n ≠ 65535 ∧ n < tmin := by
    rw [hslack]
    split <;> simp_all
  unfold readinessOf noRun
  simp only [hegap, Option.some.injEq, reduceCtorEq, if_false, hlate]

theorem urgencyOf_known {w : WorkingCopy} {n gap tmin : Nat} {d : Derived} (r : Readiness) (hegap : d.egap = some gap)
    (hslack : d.slack = if n = 65535 then none else some ((n : Int) - tmin)) :
    urgencyOf w r d = if r = .unplanned ∨ r = .due then 0 else if d.windowOpen then 3 else if gap = 0 then 0
      else if n ≠ 65535 ∧ n < tmin + w.s3 then 3 else if n ≠ 65535 ∧ n < tmin + w.s2 then 2 else 1 := by
  have hbelow : ∀ k : Nat, d.slack.any (· < (k : Int)) = true ↔ n ≠ 65535 ∧ n < tmin + k := by
    intro k
    rw [hslack]
    split
    · simp_all
    · simp only [Option.any_some, decide_eq_true_eq]
      omega
  unfold urgencyOf
  simp only [hegap, Option.some.injEq, reduceCtorEq, if_false, hbelow]

theorem exec_statusReceived {s : State} (hstopped : s.vehicle.loopResult ≠ .running) (status : WireStatus) :
    exec (.statusReceived status) s = .next (takeStatus status s) := by
  simp [exec, execStatusReceived, receiveBack, State.loopRunning, hstopped]

/-- The state that a stored STATUS leaves for the recompute: the watchdog restarted, the account reconciled. -/
def State.reconciled (status : WireStatus) (s : State) : State :=
  reconcile (startWatchdog (s.setVehicle { s.vehicle with lastStatus := some status }))

theorem estimate_zero (status : WireStatus) : estimate status 0 = min status.eveh.toNat status.ecap.toNat := by
  simp only [estimate, clampInt]
  omega

/-- What a stored STATUS leaves before the recompute (R13, R18, R54, R55). -/
theorem reconciled_effect {w : WorkingCopy} {s : State} (hw : s.store.working = some w) (status : WireStatus) :
    (s.reconciled status).vehicle =
        { s.vehicle with lastStatus := some status, watchdog := some (w.vwd * 1000) }
      ∧ (s.reconciled status).account = { s.account with
          delta := 0, deltaResidue := 0, enow := some (min status.eveh.toNat status.ecap.toNat)
          gate := (s.reconciled status).account.gate, lendable := (s.reconciled status).account.lendable
          offer := (s.reconciled status).account.offer }
      ∧ unchangedExcept [.vehicle, .account] s (s.reconciled status) := by
  refine ⟨?_, ?_, ?_⟩
  · simp [State.reconciled, reconcile, startWatchdog, State.watchdogTime, hw]
  · simp [State.reconciled, reconcile, startWatchdog, estimate_zero]
  · unfold State.reconciled
    exact unchangedExcept_of_same

/-- Settles O16: the recompute from the reconciled account. -/
theorem matchingStatusIsTaken : Obligations.MatchingStatusIsTaken := by
  intro s w c n enow gap pmax tmin accepting status hw hc hn hlinked hstopped hecho hfault henow hgap hpmax htmin haccepting
  have hclear : statusFault status = false := hfault
  have hexec : exec (.statusReceived status) s = .next (recompute false (s.reconciled status)) := by
    rw [exec_statusReceived hstopped, takeStatus, if_pos hlinked, if_pos hecho, hclear]
    rfl
  obtain ⟨hvehicle, huaccount, hframe⟩ := reconciled_effect hw status
  generalize s.reconciled status = u at hexec hvehicle huaccount hframe
  have hustore : u.store = s.store := hframe .store (by decide)
  have hutracker : u.tracker = s.tracker := hframe .tracker (by decide)
  have hushare : u.share = s.share := hframe .share (by decide)
  have huservice : u.service = s.service := hframe .service (by decide)
  have hucomposer : u.composer = s.composer := hframe .composer (by decide)
  have huenow : u.account.enow = some enow := by rw [huaccount, henow]
  obtain ⟨hresult, -, hlowered, hlends, hallowance, haccount, hservice, hchanged⟩ :=
    recompute_recomputes (b := false) (s := u) (w := w) (c := c) (n := n) (by rw [hustore, hw]) (by rw [hutracker, hc])
      (by rw [hutracker, hn])
  generalize recompute false u = t at hexec hresult hlowered hlends hallowance haccount hservice hchanged
  have hd : u.derivedFor w c n =
    { efloor := c.eroute + w.margin, egap := some gap, pmax := pmax, tmin := some tmin,
      slack := if n = 65535 then none else some ((n : Int) - tmin),
      windowOpen := c.conditioning.any fun k => decide (0 < n ∧ n ≤ k.tcond),
      etarget := status.ecap.toNat * w.target / 100 } := by
    rw [State.derivedFor, huenow]
    simp only [State.pvmax, State.ecap, hvehicle, hucomposer, Option.elim, derivedOf, Option.map_some, Option.bind_some,
      tminOf, ceilDiv, slackOf, noRun, windowOf, ← hgap, ← hpmax, ← htmin]
  have haccepts : u.acceptsNow = accepting := by
    rw [haccepting, State.acceptsNow, hvehicle]
    simp [Bool.and_assoc]
  generalize u.derivedFor w c n = d at hd hresult
  rw [hushare] at hlowered hallowance
  rw [huservice, hutracker] at hservice
  rw [haccepts, hutracker, huenow, hucomposer] at hresult
  have hr : t.tracker.readiness = readinessOf c n d := by rw [hresult]
  have hclaim : t.tracker.claim = claimOf (readinessOf c n d) d (some enow) accepting c.pcond s.composer.pderated := by
    rw [hresult]
  rw [← hr] at hclaim
  have hgapSome : d.egap = some gap := by rw [hd]
  refine ⟨t, d, hexec, (hchanged .vehicle (by decide)).trans hvehicle, ?_, hlends, ?_, hd,
    hr.trans (readinessOf_known hgapSome (by rw [hd])), ?_, fun h => ?_, fun h => ?_, fun h => ?_, ?_, hallowance, hlowered, hservice,
    unchangedExcept_comp hframe hchanged (by decide) (by decide)⟩
  · rw [haccount, huaccount, henow]
  · rw [hresult]
  · rw [← urgencyOf_known t.tracker.readiness hgapSome (by rw [hd]), hr, hresult]
  · rw [hclaim]
    rcases h with h | h | h <;> simp [h, claimOf, towardTarget, hd, ite_and]
  · rw [hclaim]
    rcases h with h | h <;> simp [h, claimOf, hd]
  · rw [hclaim, h]
    simp only [claimOf, conditioningBase, towardTarget, hd]
    cases accepting <;> simp [ite_or]
  · rw [hr, hresult]
    simp only [outcomeAfter, hgapSome, Option.elim, outcomeOf]
    simp

/-! ## The halts of a linked session (R6, R13, R18) -/

/-- The waiting frames after a halt of an open session end with its STOP. -/
theorem State.HaltedBy.waiting_open {r : HaltReason} {s t : State} (h : s.HaltedBy r t)
    (hopen : s.vehicle.sessionOpen = true) : t.vehicle.waiting =
      s.vehicle.waiting.filter (fun f => !f.isPermit) ++ [.stop s.vehicle.session (.halt r)] := by
  rw [h.vehicle, if_pos hopen]

/-- Settles O17: a halt as it is, and one after the recompute of the faulty STATUS. -/
theorem linkedSessionHalts : Obligations.LinkedSessionHalts := by
  intro s w hw hcard hlinked hopen hstopped
  obtain ⟨c, hc⟩ := Option.isSome_iff_exists.mp hcard
  have hlive := linked_ne_halted hlinked
  refine ⟨fun status hecho => ?_, fun status hecho hfault => ?_, fun hdue => ?_, fun hnot => ?_⟩
  · have hexec : exec (.statusReceived status) s = .next (halt .crossed s) := by
      rw [exec_statusReceived hstopped, takeStatus, if_pos hlinked, if_neg hecho]
    have hhalts := halt_halts (r := .crossed) hlive
    exact ⟨_, hexec, hhalts, hhalts.halted.waiting_open hopen, unchangedExcept_of_same⟩
  · have hraised : statusFault status = true := hfault
    have hexec : exec (.statusReceived status) s = .next (halt .vehicleFault (recompute false (s.reconciled status))) := by
      rw [exec_statusReceived hstopped, takeStatus, if_pos hlinked, if_pos hecho, if_pos hraised]
      rfl
    obtain ⟨hvehicle, haccount, hframe⟩ := reconciled_effect hw status
    generalize s.reconciled status = u at hexec hvehicle haccount hframe
    have hutracker : u.tracker = s.tracker := hframe .tracker (by decide)
    have hushare : u.share = s.share := hframe .share (by decide)
    have huservice : u.service = s.service := hframe .service (by decide)
    obtain ⟨hvtracker, hvshare, hvservice, hvaccount⟩ := recompute_effect (b := false) (s := u) (w := w) (c := c)
      (by rw [hframe .store (by decide), hw]) (by rw [hutracker, hc])
    have hvvehicle : (recompute false u).vehicle = u.vehicle := by simp
    have hvframe : unchangedExcept [.tracker, .account, .share, .service] u (recompute false u) :=
      unchangedExcept_of_same
    have hvlive : (recompute false u).tracker.readiness ≠ .halted := by
      rw [hvtracker]
      exact linked_ne_halted (readinessOf_linked _ _ _)
    generalize recompute false u = v at hexec hvtracker hvshare hvservice hvaccount hvvehicle hvframe hvlive
    obtain ⟨⟨hhvehicle, hhtracker, hhshare⟩, hhaccount, hhservice⟩ := halt_halts (r := .vehicleFault) hvlive
    have hhalted : (s.setVehicle { s.vehicle with lastStatus := some status }).HaltedBy .vehicleFault
        (halt .vehicleFault v) := by
      refine ⟨?_, ?_, ?_⟩
      · rw [hhvehicle, hvvehicle, hvehicle]
        rfl
      · rw [hhtracker, hvtracker, State.recomputed, hutracker]
        rfl
      · have hlowered := loweredTo_setAllowance (u.recomputed false w c).claim u.share
        rw [← hvshare, hushare] at hlowered
        exact hlowered.trans hhshare (Nat.zero_le _)
    refine ⟨_, hexec, hhalted, hhalted.waiting_open hopen, ?_, ?_, ?_,
      unchangedExcept_comp (unchangedExcept_comp hframe hvframe (n := [.vehicle, .tracker, .account, .share, .service])
        (by decide) (by decide)) (unchangedExcept_of_same (l := [.vehicle, .tracker, .account, .share, .service]))
        (by decide) (by decide)⟩
    · rw [hhaccount, hvaccount, haccount]
    · rw [hhservice, hvservice, huservice]
      split <;> rfl
    · rw [hhservice, hvservice, huservice]
      split
      · exact .inr (by simp only [BitVec.or_assoc]; rfl)
      · exact .inl rfl
  · have hexec : exec .vehicleWatchdogExpiry s = .next (halt .vehicleSilent s) := by
      simp [exec, execVehicleWatchdogExpiry, watchdogExpired, hdue]
    have hhalts := halt_halts (r := .vehicleSilent) hlive
    exact ⟨_, hexec, hhalts, hhalts.halted.waiting_open hopen, unchangedExcept_of_same⟩
  · simp [exec, execVehicleWatchdogExpiry, watchdogExpired, hnot]

/-! ## Cards and the minute timer (R14, R28, R29) -/

theorem readinessOf_eq_due_iff {c : RunCard} {n : Nat} {d : Derived} :
    readinessOf c n d = .due ↔ c.departure ≠ 65535 ∧ n = 0 := by
  unfold readinessOf noRun
  by_cases hnorun : c.departure = 65535
  · simp [hnorun]
  by_cases hzero : n = 0
  · simp [hnorun, hzero]
  simp only [hnorun, hzero, if_false]
  repeat' split
  all_goals simp

/-- The outcome that an entry to DUE fixes, by the energy gap (R41). -/
theorem outcomeAfter_due {cardStored : Bool} {t : Tracker} {d : Derived}
    (h : t.readiness ≠ .due ∨ cardStored = true ∨ t.outcome = none) :
    (d.egap = some 0 → outcomeAfter cardStored t .due d = some .met)
      ∧ (∀ g, d.egap = some (g + 1) → outcomeAfter cardStored t .due d = some .short)
      ∧ (d.egap = none → outcomeAfter cardStored t .due d = t.outcome) := by
  refine ⟨fun hg => ?_, fun g hg => ?_, fun hg => ?_⟩ <;>
    rw [outcomeAfter, if_pos ⟨rfl, h⟩, hg] <;> rfl

theorem outcomeAfter_kept {cardStored : Bool} {t : Tracker} {r : Readiness} {d : Derived}
    (h : r ≠ .due ∨ (t.readiness = .due ∧ cardStored = false ∧ t.outcome ≠ none)) :
    outcomeAfter cardStored t r d = t.outcome := by
  rw [outcomeAfter, if_neg]
  rintro ⟨hr, hnew⟩
  rcases h with h | ⟨h1, h2, h3⟩
  · exact h hr
  · simp_all

/-- Settles O18: the recompute with the new card. -/
theorem cardReplacesTheStoredCard : Obligations.CardReplacesTheStoredCard := by
  intro s w card c hw hstopped hlinked hdeparture heroute hconditioning
  have hcard := ofWire_eq hdeparture heroute hconditioning
  have hexec : exec (.cardReceived card) s = .next (recompute true (s.setTracker (s.tracker.withCard c))) := by
    simp [exec, execCardReceived, receiveBack, State.loopRunning, hstopped, takeCard, hlinked, storeCard, hcard]
  obtain ⟨hresult, hfollows, hlowered, hlends, hallowance, haccount, hservice, hchanged⟩ :=
    recompute_recomputes (b := true) (s := s.setTracker (s.tracker.withCard c)) (w := w) (c := c) (n := c.departure)
      (by simpa using hw) rfl rfl
  generalize recompute true _ = t at hexec hresult hfollows hlowered hlends hallowance haccount hservice hchanged
  obtain ⟨d, hd⟩ : ∃ d, d = (s.setTracker (s.tracker.withCard c)).derivedFor w c c.departure := ⟨_, rfl⟩
  rw [← hd] at hresult
  simp only [State.setTracker_tracker, State.setTracker_account, State.setTracker_share, State.setTracker_composer,
    withCard_eq (departure_range hdeparture)] at hresult hfollows hlowered haccount
  simp only [State.setTracker_tracker, State.setTracker_share, State.setTracker_service,
    withCard_eq (departure_range hdeparture)] at hservice hallowance
  have hr : t.tracker.readiness = readinessOf c c.departure d := by rw [hresult]
  have houtcome : t.tracker.outcome = outcomeAfter true (s.tracker.withCard c) t.tracker.readiness d := by
    rw [hr, hresult, withCard_eq (departure_range hdeparture)]
  refine ⟨t, d, hexec, ?_, hfollows, by rw [hd]; rfl, by rw [hd]; rfl, by rw [hd]; rfl, fun hnorun => ?_, fun hzero => ?_,
    fun hnonzero => ?_, hallowance, hlowered, haccount, hlends, hservice,
    unchangedExcept_comp (l := [.tracker]) unchangedExcept_of_same hchanged (by decide) (by decide)⟩
  · rw [hresult]
  · rw [hr, readinessOf, noRun, if_pos hnorun]
  · have hdue : t.tracker.readiness = .due := hr.trans (readinessOf_eq_due_iff.mpr ⟨by omega, hzero⟩)
    rw [houtcome, hdue]
    exact ⟨rfl, outcomeAfter_due (.inr (.inl rfl))⟩
  · rw [houtcome]
    exact outcomeAfter_kept (.inl fun hdue => hnonzero (readinessOf_eq_due_iff.mp (hr.symm.trans hdue)).2)

/-- Settles O20: the recompute a minute later. -/
theorem minuteStepsTheCountdown : Obligations.MinuteStepsTheCountdown := by
  intro s
  refine ⟨fun hnot => ?_, fun w c n hdue hlinked hw hc hplanned hn hday => ?_⟩
  · have hcond : ¬(due s.tracker.minuteTimer && s.tracker.readiness.linked) = true := by
      simp only [Bool.and_eq_true, due_iff, not_and, Bool.not_eq_true]
      tauto
    simp only [exec, execMinuteTimerExpiry, minuteExpired, if_neg hcond]
  have hexec : exec .minuteTimerExpiry s = .next (recompute false (s.setTracker s.tracker.minute)) := by
    simp [exec, execMinuteTimerExpiry, minuteExpired, hdue, hlinked, minuteStep]
  have hminute : s.tracker.minute = { s.tracker with
      countdown := some n, minuteTimer := if n = 0 then none else some 60000000
      atRiskMinutes :=
        if s.tracker.readiness = .atRisk ∧ s.tracker.atRiskMinutes < 65535 then s.tracker.atRiskMinutes + 1
        else s.tracker.atRiskMinutes } := by
    have htimer : minuteTimerFor n = if n = 0 then none else some 60000000 := by
      simp only [minuteTimerFor_departure (n := n) (by omega), show (n = 0 ∨ n = 65535) ↔ n = 0 by omega]
    simp [Tracker.minute, hn, htimer, bump, ite_and]
  obtain ⟨hresult, hfollows, hlowered, hlends, -, haccount, hservice, hchanged⟩ :=
    recompute_recomputes (b := false) (s := s.setTracker s.tracker.minute) (w := w) (c := c) (n := n)
      (by simpa using hw) (by simpa [hminute] using hc) (by simp [hminute])
  generalize recompute false _ = t at hexec hresult hfollows hlowered hlends haccount hservice hchanged
  obtain ⟨d, hd⟩ : ∃ d, d = (s.setTracker s.tracker.minute).derivedFor w c n := ⟨_, rfl⟩
  rw [← hd] at hresult
  simp only [State.setTracker_tracker, State.setTracker_account, State.setTracker_share, State.setTracker_service,
    State.setTracker_composer, hminute] at hresult hfollows hlowered haccount hservice
  have hr : t.tracker.readiness = readinessOf c n d := by rw [hresult]
  have hu : t.tracker.urgency = urgencyOf w (readinessOf c n d) d := by rw [hresult]
  have houtcome : t.tracker.outcome = outcomeAfter false s.tracker t.tracker.readiness d := by
    rw [hr, hresult]
    rfl
  have hdueIff : t.tracker.readiness = .due ↔ n = 0 := by
    rw [hr, readinessOf_eq_due_iff]
    omega
  refine ⟨t, d, hexec, ?_, hfollows, by rw [hd]; rfl, fun hzero => ?_, fun hzero hopen => ?_, fun hkeeps => ?_,
    fun hpositive hwindow => ?_, hlowered, haccount, hlends, hservice,
    unchangedExcept_comp (l := [.tracker]) unchangedExcept_of_same hchanged (by decide) (by decide)⟩
  · rw [hresult]
  · have hdue' := hdueIff.mpr hzero
    refine ⟨hdue', ?_⟩
    rw [hu, ← hr, hdue', urgencyOf, if_pos (.inr rfl)]
  · rw [houtcome, hdueIff.mpr hzero]
    exact outcomeAfter_due (hopen.imp_right .inr)
  · rw [houtcome]
    refine outcomeAfter_kept (hkeeps.imp (fun hpositive hdue' => ?_) fun h => ⟨h.1, rfl, h.2⟩)
    have := hdueIff.mp hdue'
    omega
  · obtain ⟨k, hk, hle⟩ := hwindow
    have hopen : d.windowOpen = true := by
      rw [hd]
      simp [State.derivedFor, derivedOf, windowOf, hk, hpositive, hle]
    have hconditioning : readinessOf c n d = .conditioning := by
      rw [readinessOf, if_neg (by unfold noRun; omega), if_neg (by omega), if_pos hopen]
    rw [hu, hr, hconditioning]
    exact ⟨rfl, by rw [urgencyOf, if_neg (by simp), if_pos hopen]⟩

/-! ## Damaged and unknown back frames (R11, R21) -/

/-- A frame whose CRC is right is its bytes sealed (R185). -/
theorem unsealFrame_eq_none {frame : List Byte}
    (h : frame.length < 3 ∨ frame.drop (frame.length - 2) ≠ bytesOfWord (crc16 (frame.take (frame.length - 2)))) :
    unsealFrame frame = none := by
  unfold unsealFrame
  split
  · rfl
  next hlength =>
  rw [if_neg]
  intro hsealed
  rcases h with h | h
  · exact hlength h
  · have hlength' : (frame.take (frame.length - 2)).length = frame.length - 2 := by simp
    refine h ?_
    calc frame.drop (frame.length - 2)
        = (sealFrame (frame.take (frame.length - 2))).drop (frame.take (frame.length - 2)).length := by
          rw [hlength', ← hsealed]
      _ = bytesOfWord (crc16 (frame.take (frame.length - 2))) := List.drop_left

theorem cardOf_eq_none {payload : List Byte} (h : payload.length ≠ 8) : cardOf payload = none := by
  unfold cardOf
  split
  · simp at h
  · rfl

theorem identOf_eq_none {payload : List Byte} (h : payload.length ≠ 14) : identOf payload = none := by
  unfold identOf
  split
  next rest =>
    rw [cardOf_eq_none (by simpa using h)]
    rfl
  · rfl

theorem statusOf_eq_none {payload : List Byte} (h : payload.length ≠ 10) : statusOf payload = none := by
  unfold statusOf
  split
  · simp at h
  · rfl

/-- A back frame whose kind or length is not of the tables is not taken (R11). -/
theorem backFrameOf_untaken {frame payload : List Byte} {kind : Byte} (h : unsealFrame frame = some (kind :: payload))
    (hident : kind ≠ 0x21 ∨ payload.length ≠ 14) (hstatus : kind ≠ 0x22 ∨ payload.length ≠ 10)
    (hcard : kind ≠ 0x23 ∨ payload.length ≠ 8) : backFrameOf frame = .unknown ∨ backFrameOf frame = .test := by
  unfold backFrameOf
  rw [h]
  simp only
  split
  next hkind =>
    rw [identOf_eq_none (hident.resolve_left (not_not_intro hkind))]
    exact .inl rfl
  split
  next hkind =>
    rw [statusOf_eq_none (hstatus.resolve_left (not_not_intro hkind))]
    exact .inl rfl
  split
  next hkind =>
    rw [cardOf_eq_none (hcard.resolve_left (not_not_intro hkind))]
    exact .inl rfl
  repeat' split
  exacts [.inr rfl, .inl rfl, .inl rfl]

/-- Settles O19: the two ways a back frame is discarded. -/
theorem damagedBackFrameIsCounted : Obligations.DamagedBackFrameIsCounted := by
  intro s frame hstopped
  have hexec : exec (.vehicleFrameDiscarded frame) s = .next (takeBackFrame frame s) := by
    simp [exec, execVehicleFrameDiscarded, receiveBack, State.loopRunning, hstopped]
  refine ⟨fun hdamaged => ?_, fun kind payload hframe hident hstatus hcard => ?_⟩
  · have htaken : takeBackFrame frame s = s.setVehicle { s.vehicle with crcErrors := bump 255 s.vehicle.crcErrors } := by
      simp [takeBackFrame, backFrameOf, unsealFrame_eq_none hdamaged]
    rw [htaken] at hexec
    exact ⟨_, hexec, rfl, unchangedExcept_of_same⟩
  · have hsealed : unsealFrame frame = some (kind :: payload) := by
      rw [hframe]
      exact unsealFrame_sealFrame (kind :: payload) (by simp)
    rw [hexec, takeBackFrame]
    rcases backFrameOf_untaken hsealed hident hstatus hcard with h | h <;> rw [h]

/-! ## The loop test (R22 to R24) -/

/-- Settles O21: the two tables of 1.8. -/
theorem loopTestRequestsAreAnswered : Obligations.LoopTestRequestsAreAnswered := by
  intro s answer hanswer
  refine ⟨fun hrun => ⟨⟨respond 4 .busy [] s, ?_, ?_, unchangedExcept_of_same⟩,
      ⟨respond 4 .ok [] (abortLoopTest s), ?_, ?_, rfl, ?_⟩⟩,
    fun hstopped => ⟨⟨respond 4 .refused [] s, ?_, ?_, unchangedExcept_of_same⟩, fun hvacant hpilot hproximity =>
      ⟨respond 4 .ok [] (s.setVehicle s.vehicle.startLoopTest), ?_, rfl, ?_, unchangedExcept_of_same⟩, fun hnot =>
        ⟨respond 4 .refused [] s, ?_, ?_, unchangedExcept_of_same⟩⟩⟩
  · simp [exec, execLooptestStart, takeRequest, takeLooptestStart, looptestStatus, State.loopRunning, hrun]
  · simp [hanswer]
  · simp [exec, execLooptestStop, takeRequest, takeLooptestStop, State.loopRunning, hrun]
  · simp [hanswer, abortLoopTest, withCause, Cause.bit, BitVec.twoPow]
  · unfold abortLoopTest
    exact unchangedExcept_of_same
  · simp [exec, execLooptestStop, takeRequest, takeLooptestStop, State.loopRunning, hstopped]
  · simp [hanswer]
  · simp [exec, execLooptestStart, takeRequest, takeLooptestStart, looptestStatus, State.loopRunning, hstopped, hvacant,
      hpilot, hproximity]
  · simp [hanswer]
  · have hcond : ¬(s.tracker.readiness = .vacant ∧ s.vehicle.pilot = .none ∧ s.vehicle.proximity = .closed) := by tauto
    simp [exec, execLooptestStart, takeRequest, takeLooptestStart, looptestStatus, State.loopRunning, hstopped, hcond]
  · simp [hanswer]

theorem patternByte_eq (i j : Nat) : patternByte i j = BitVec.ofNat 8 ((i + 37 * j) % 256) := by
  apply BitVec.eq_of_toNat_eq
  simp [patternByte]

/-- An outcome of frame 255 ends the test, and one of an earlier frame makes the next one wait (R23, R24). -/
theorem decideTestFrame_effect (pass : Bool) (s : State) :
    (s.vehicle.loopIndex < 255 → (decideTestFrame pass s).vehicle = { s.vehicle with
          loopErrors := loopErrorsAfter pass s.vehicle.loopErrors, loopIndex := s.vehicle.loopIndex + 1
          loopWindow := none }
        ∧ unchangedExcept [.vehicle] s (decideTestFrame pass s))
      ∧ (255 ≤ s.vehicle.loopIndex → (decideTestFrame pass s).vehicle = { s.vehicle with
          loopErrors := loopErrorsAfter pass s.vehicle.loopErrors
          loopResult := if loopErrorsAfter pass s.vehicle.loopErrors = 0 then .pass else .fail, loopWindow := none }
        ∧ (decideTestFrame pass s).service =
            { s.service with pendingCauses := s.service.pendingCauses ||| 2048#12 }
        ∧ unchangedExcept [.vehicle, .service] s (decideTestFrame pass s)) := by
  refine ⟨fun hmore => ?_, fun hlast => ?_⟩
  · have hnext : decideTestFrame pass s = s.setVehicle (VehicleLine.awaitTestFrame (s.vehicle.loopIndex + 1)
        { s.vehicle with loopErrors := loopErrorsAfter pass s.vehicle.loopErrors }) := by
      rw [decideTestFrame, if_neg (by omega)]
    rw [hnext]
    exact ⟨rfl, unchangedExcept_of_same⟩
  · have hends : decideTestFrame pass s = raise .looptestDone (s.setVehicle (s.vehicle.completeLoopTest pass)) := by
      rw [decideTestFrame, if_pos hlast]
    rw [hends]
    exact ⟨rfl, rfl, unchangedExcept_of_same⟩

/-- Settles O22: a frame in the window and the window's end decide the frame in flight alike. -/
theorem loopTestOutcomesAreCounted : Obligations.LoopTestOutcomesAreCounted := by
  rintro s i hrun rfl
  have hreturn : ∀ u : State, u.vehicle.loopResult = .running → ∀ frame,
      exec (.testFrameReturn frame) u = .next (loopReceive frame u) := by
    intro u hu frame
    simp [exec, execTestFrameReturn, receiveBack, State.loopRunning, hu]
  have hclosed : ∀ u : State, u.vehicle.loopResult = .running → u.vehicle.loopWindow = none → ∀ frame,
      exec (.testFrameReturn frame) u = .next u := by
    intro u hu hnone frame
    rw [hreturn u hu]
    simp [loopReceive, hnone]
  refine ⟨?_, fun frame hnone => hclosed s hrun hnone frame, ?_, fun hnot => ?_, fun hdue => ?_⟩
  · rintro bytes rfl
    rw [testFrame, sealFrame, funext (patternByte_eq s.vehicle.loopIndex)]
  · rintro frame left errors hopen rfl
    have hexec : exec (.testFrameReturn frame) s
        = .next (decideTestFrame (decide (frame = testFrame s.vehicle.loopIndex)) s) := by
      rw [hreturn s hrun]
      simp [loopReceive, hopen]
    have herrors : loopErrorsAfter (decide (frame = testFrame s.vehicle.loopIndex)) s.vehicle.loopErrors
        = if frame = testFrame s.vehicle.loopIndex then s.vehicle.loopErrors else s.vehicle.loopErrors + 1 := by
      simp [loopErrorsAfter]
    obtain ⟨hmore, hlast⟩ := decideTestFrame_effect (decide (frame = testFrame s.vehicle.loopIndex)) s
    rw [herrors] at hmore hlast
    generalize decideTestFrame _ s = t at hexec hmore hlast
    refine ⟨t, hexec, fun h => ⟨(hmore h).1, fun further => ?_, (hmore h).2⟩, hlast⟩
    exact hclosed t (by rw [(hmore h).1]; exact hrun) (by rw [(hmore h).1]) further
  · simp [exec, execReturnWindowExpiry, returnWindowExpired, hnot]
  · have hexec : exec .returnWindowExpiry s = .next (decideTestFrame false s) := by
      simp [exec, execReturnWindowExpiry, returnWindowExpired, hdue, State.loopRunning, hrun]
    obtain ⟨hmore, hlast⟩ := decideTestFrame_effect false s
    exact ⟨_, hexec, hmore, hlast⟩

end Sys2Proof.Machine


/-! PROOFS. Laws of single definitions: urgency and claim, integration, lending, the sequence generator, the division of
discharges and commitments, and the dither (2.3, 3.2, 3.4, 4.3, 6.8, 7.6, 8.5). -/

namespace Sys2Proof.Machine

/-! ## Urgency and claim (R35, R36) -/

theorem urgencyOf_open {w : WorkingCopy} {r : Readiness} {d : Derived} (hplanned : r ≠ .unplanned) (hdue : r ≠ .due)
    (hopen : d.windowOpen = true) : urgencyOf w r d = 3 := by
  rw [urgencyOf, if_neg (by tauto), if_pos hopen]

/-- With the window closed the urgency follows the energy gap and the slack. -/
theorem urgencyOf_closed {w : WorkingCopy} {r : Readiness} {d : Derived} (hplanned : r ≠ .unplanned) (hdue : r ≠ .due)
    (hclosed : d.windowOpen = false) :
    (d.egap = some 0 → urgencyOf w r d = 0) ∧ (d.egap = none → urgencyOf w r d = 1)
      ∧ (∀ g slack, d.egap = some (g + 1) → d.slack = some slack →
        (slack < w.s3 → urgencyOf w r d = 3)
        ∧ ((w.s3 : Int) ≤ slack → slack < w.s2 → urgencyOf w r d = 2)
        ∧ ((w.s3 : Int) ≤ slack → (w.s2 : Int) ≤ slack → urgencyOf w r d = 1)) := by
  have hrest : urgencyOf w r d =
      if d.egap = some 0 then 0 else if d.egap = none then 1
      else if d.slack.any (· < (w.s3 : Int)) then 3 else if d.slack.any (· < (w.s2 : Int)) then 2 else 1 := by
    rw [urgencyOf, if_neg (by tauto), hclosed, if_neg (by simp)]
  rw [hrest]
  refine ⟨fun h => by simp [h], fun h => by simp [h], fun g slack hg hs => ⟨fun h => ?_, fun h k => ?_, fun h k => ?_⟩⟩
  · simp [hg, hs, h]
  · simp [hg, hs, Int.not_lt.mpr h, k]
  · simp [hg, hs, Int.not_lt.mpr h, Int.not_lt.mpr k]

theorem readinessOf_conditioning {c : RunCard} {n : Nat} {d : Derived} (h : readinessOf c n d = .conditioning) :
    d.windowOpen = true := by
  unfold readinessOf at h
  split at h
  · simp at h
  split at h
  · simp at h
  split at h
  next hopen => exact hopen
  · repeat' split at h
    all_goals simp at h

/-- AT_RISK is a known energy gap above 0 that the time left does not cover (R37). -/
theorem readinessOf_atRisk {c : RunCard} {n : Nat} {d : Derived} (h : readinessOf c n d = .atRisk) :
    d.windowOpen = false ∧ d.egap ≠ none ∧ d.egap ≠ some 0 ∧ d.slack.any (· < 0) = true := by
  unfold readinessOf at h
  split at h
  · simp at h
  split at h
  · simp at h
  split at h
  · simp at h
  next hclosed =>
  split at h
  · simp at h
  next hknown =>
  split at h
  · simp at h
  next hgap =>
  split at h
  next hlate => exact ⟨by simpa using hclosed, hknown, hgap, hlate⟩
  · simp at h

theorem urgencyOf_atRisk {w : WorkingCopy} {c : RunCard} {n : Nat} {d : Derived} (h : readinessOf c n d = .atRisk) :
    urgencyOf w .atRisk d = 3 := by
  obtain ⟨hclosed, hknown, hgap, hlate⟩ := readinessOf_atRisk h
  obtain ⟨slack, hslack, hnegative⟩ := (Option.any_eq_true _ _).mp hlate
  obtain ⟨g, hg⟩ : ∃ g, d.egap = some (g + 1) := by
    cases hcase : d.egap with
    | none => exact absurd hcase hknown
    | some g =>
      cases g with
      | zero => exact absurd hcase hgap
      | succ g => exact ⟨g, rfl⟩
  have hbelow : slack < (w.s3 : Int) := by
    have : slack < 0 := by simpa using hnegative
    omega
  exact ((urgencyOf_closed (w := w) (by simp) (by simp) hclosed).2.2 g slack hg hslack).1 hbelow

theorem claimOf_le {w : WorkingCopy} {c : RunCard} {n pvmax pderated ecap : Nat} {enow : Option Nat} (r : Readiness)
    (accepting : Bool) (pcond : Nat) :
    claimOf r (derivedOf w c n enow pvmax pderated ecap) enow accepting pcond pderated ≤ pderated := by
  have hpmax : (derivedOf w c n enow pvmax pderated ecap).pmax ≤ pderated := Nat.min_le_right _ _
  have htoward : towardTarget (derivedOf w c n enow pvmax pderated ecap) enow ≤ pderated := by
    unfold towardTarget
    split <;> omega
  unfold claimOf
  repeat' split
  all_goals omega

/-- Settles O23: the lines of the two tables, and what each readiness state implies for them. -/
theorem urgencyAndClaimLaws : Obligations.UrgencyAndClaimLaws := by
  rintro w c n pvmax pderated ecap toward base enow d r accepting hd hr rfl rfl
  have hcalm : (r = .unplanned ∨ r = .due) → urgencyOf w r d = 0 := fun h => by rw [urgencyOf, if_pos h]
  refine ⟨⟨hcalm, fun hplanned hdue => ⟨urgencyOf_open hplanned hdue, urgencyOf_closed hplanned hdue⟩⟩, fun h => ?_,
    fun h => ?_, fun h => ?_, fun h => ?_, fun hgap hclosed => ?_, urgencyOf_le w r d, hd ▸ claimOf_le r accepting c.pcond⟩
  · rcases h with h | h | h <;> rw [h] <;> rfl
  · rcases h with h | h <;> rw [h] <;> rfl
  · rw [h]
    simp only [claimOf, conditioningBase, towardTarget, ite_or]
  · rcases h with h | h
    · rw [h]
      exact urgencyOf_atRisk (hr.symm.trans h)
    · exact urgencyOf_open (by simp [h]) (by simp [h]) (readinessOf_conditioning (hr.symm.trans h))
  · by_cases hcase : r = .unplanned ∨ r = .due
    · exact hcalm hcase
    · obtain ⟨hplanned, hdue⟩ := not_or.mp hcase
      exact (urgencyOf_closed hplanned hdue hclosed).1 hgap

/-! ## Integration (R52, R53) -/

theorem bump_eq {n : Nat} {m : Nat} (h : n ≤ m) : bump m n = min m (n + 1) := by
  unfold bump
  split <;> omega

theorem integrateDelta_eq (p : Int) (a : Account) :
    integrateDelta p a = { a with
      deltaResidue := if 36000 ≤ a.deltaResidue + p then a.deltaResidue + p - 36000
        else if a.deltaResidue + p ≤ -36000 then a.deltaResidue + p + 36000 else a.deltaResidue + p
      delta := if 36000 ≤ a.deltaResidue + p then min 32767 (a.delta + 1)
        else if a.deltaResidue + p ≤ -36000 then max (-32767) (a.delta - 1) else a.delta } := by
  simp only [integrateDelta, transferUnits, Nat.cast_ofNat]
  by_cases hup : 36000 ≤ a.deltaResidue + p
  · simp only [hup, if_true, min_comm (a.delta + 1)]
  by_cases hdown : a.deltaResidue + p ≤ -36000
  · simp only [hup, hdown, if_true, if_false, max_comm (a.delta - 1)]
  · simp only [hup, hdown, if_false]

theorem integrateIn_eq (p : Int) {a : Account} (h : a.energyIn ≤ 65535) :
    integrateIn p a = { a with
      inResidue := if 36000 ≤ a.inResidue + p.toNat then a.inResidue + p.toNat - 36000 else a.inResidue + p.toNat
      energyIn := if 36000 ≤ a.inResidue + p.toNat then min 65535 (a.energyIn + 1) else a.energyIn } := by
  simp only [integrateIn, transferUnits, bump_eq h]
  split <;> rfl

theorem integrateOut_eq (p : Int) {a : Account} (h : a.energyOut ≤ 65535) :
    integrateOut p a = { a with
      outResidue :=
        if 36000 ≤ a.outResidue + (-p).toNat then a.outResidue + (-p).toNat - 36000 else a.outResidue + (-p).toNat
      energyOut := if 36000 ≤ a.outResidue + (-p).toNat then min 65535 (a.energyOut + 1) else a.energyOut } := by
  simp only [integrateOut, transferUnits, bump_eq h]
  split <;> rfl

/-- The three accumulators after one measured power, written out. -/
theorem integrate_eq (p : Int) {a : Account} (hin : a.energyIn ≤ 65535) (hout : a.energyOut ≤ 65535) :
    integrate p a = { a with
      deltaResidue := if 36000 ≤ a.deltaResidue + p then a.deltaResidue + p - 36000
        else if a.deltaResidue + p ≤ -36000 then a.deltaResidue + p + 36000 else a.deltaResidue + p
      delta := if 36000 ≤ a.deltaResidue + p then min 32767 (a.delta + 1)
        else if a.deltaResidue + p ≤ -36000 then max (-32767) (a.delta - 1) else a.delta
      inResidue := if 36000 ≤ a.inResidue + p.toNat then a.inResidue + p.toNat - 36000 else a.inResidue + p.toNat
      energyIn := if 36000 ≤ a.inResidue + p.toNat then min 65535 (a.energyIn + 1) else a.energyIn
      outResidue :=
        if 36000 ≤ a.outResidue + (-p).toNat then a.outResidue + (-p).toNat - 36000 else a.outResidue + (-p).toNat
      energyOut := if 36000 ≤ a.outResidue + (-p).toNat then min 65535 (a.energyOut + 1) else a.energyOut } := by
  rw [integrate, integrateOut_eq p (by simpa using hout), integrateIn_eq p (by simpa using hin), integrateDelta_eq]

/-- Settles O24: each accumulator apart, by the place of its residue. -/
theorem integrationKeepsEveryUnit : Obligations.IntegrationKeepsEveryUnit := by
  intro a p hlow hhigh hd1 hd2 hin hout hdelta1 hdelta2 henergyIn henergyOut
  have heq := integrate_eq p henergyIn henergyOut
  refine ⟨fun h1 h2 => ?_, fun h => ?_, fun h => ?_, heq, ?_, ?_, ?_, ?_, ?_, ?_, ?_, ?_, ?_, ?_⟩
  all_goals
    rw [heq]
    dsimp only
    repeat' split
    all_goals omega

/-! ## Lending (R57, R60) -/

/-- Settles O25: the table of 3.4 at the account's own update. -/
theorem lendableUpdateFollowsTheTable : Obligations.LendableUpdateFollowsTheTable := by
  intro s
  have hlends := updateLending_lends s
  have haccount : (updateLending s).account = { s.account with
      gate := (updateLending s).account.gate, lendable := (updateLending s).account.lendable
      offer := (updateLending s).account.offer } := by simp
  refine ⟨fun hr => ⟨_, rfl, ?_, unchangedExcept_of_same⟩, fun w c d n e hr hw hc hd hn he =>
    ⟨_, rfl, fun h => ?_, fun h k => ?_, fun h k => ?_, unchangedExcept_of_same⟩⟩
  · obtain ⟨hgate, hlendable, hoffer⟩ := hlends.notTopped (by simpa using hr)
    rw [haccount, hgate, hlendable, hoffer]
  · obtain ⟨hgate, hlendable, hoffer⟩ := hlends.inWindow w (by simpa using hw) d (by simpa using hd) n (by simpa using hn)
      e (by simpa using he) (by simpa using hr) h
    rw [haccount, hgate, hlendable, hoffer]
  · obtain ⟨hgate, hlendable, hoffer⟩ := hlends.belowGuard w (by simpa using hw) d (by simpa using hd) n
      (by simpa using hn) e (by simpa using he) (by simpa using hr) h k
    rw [haccount, hgate, hlendable, hoffer]
  · obtain ⟨hgate, hlendable, hoffer⟩ := hlends.isOpen w (by simpa using hw) d (by simpa using hd) n
      (by simpa using hn) e (by simpa using he) (by simpa using hr) h k
    have hlendable' : (updateLending s).account.lendable = e - d.efloor - w.lendguard := by omega
    rw [haccount, hgate, hlendable', hoffer]
    simp

/-! ## The sequence generator (R70) -/

theorem sequenceStep_top (x : Word) :
    (sequenceStep x).getLsbD 15 = (x.getLsbD 0 ^^ x.getLsbD 2 ^^ x.getLsbD 3 ^^ x.getLsbD 5) := by
  simp only [sequenceStep, BitVec.getLsbD_or, BitVec.getLsbD_ushiftRight, BitVec.getLsbD_shiftLeft,
    BitVec.getLsbD_setWidth, BitVec.getLsbD_ofBool]
  simp

theorem sequenceStep_shifts (x : Word) {i : Nat} (h : i < 15) : (sequenceStep x).getLsbD i = x.getLsbD (i + 1) := by
  simp only [sequenceStep, BitVec.getLsbD_or, BitVec.getLsbD_ushiftRight, BitVec.getLsbD_shiftLeft]
  simp [h, Nat.add_comm]

/-- A step loses no set bit: what leaves at bit 0 enters at bit 15 while bits 2, 3 and 5 are clear. -/
theorem sequenceStep_ne_zero {x : Word} (h : x ≠ 0) : sequenceStep x ≠ 0 := by
  intro hzero
  have hclear : ∀ i, (sequenceStep x).getLsbD i = false := by simp [hzero]
  have hupper : ∀ i, i < 15 → x.getLsbD (i + 1) = false := fun i hi => (sequenceStep_shifts x hi).symm.trans (hclear i)
  have hlowest : x.getLsbD 0 = false := by
    have htop := (sequenceStep_top x).symm.trans (hclear 15)
    rwa [show x.getLsbD 2 = false from hupper 1 (by decide), show x.getLsbD 3 = false from hupper 2 (by decide),
      show x.getLsbD 5 = false from hupper 4 (by decide), Bool.xor_false, Bool.xor_false, Bool.xor_false] at htop
  refine h (BitVec.eq_of_getLsbD_eq fun i hi => ?_)
  rw [BitVec.ofNat_eq_ofNat, BitVec.getLsbD_zero]
  cases i with
  | zero => exact hlowest
  | succ i => exact hupper i (by omega)

/-- Settles O27: the bits of a step, and the four lowest bits of a reload. -/
theorem sequenceGeneratorKeepsReloadsNear : Obligations.SequenceGeneratorKeepsReloadsNear := by
  refine ⟨fun x => ⟨sequenceStep_top x, fun i hi => sequenceStep_shifts x hi, rfl, fun h => ?_⟩,
    fun station hlow hhigh => ?_, fun w x hw => ?_⟩
  · exact sequenceStep_ne_zero (sequenceStep_ne_zero (sequenceStep_ne_zero (sequenceStep_ne_zero h)))
  · have hvalue : (sequenceSeed station).toNat = 257 * station := by
      rw [sequenceSeed, BitVec.toNat_ofNat]
      omega
    refine ⟨hvalue, fun hzero => ?_⟩
    rw [hzero] at hvalue
    simp at hvalue
    omega
  · have htann := hw.tann.1
    unfold reloadOf WorkingCopy.announceTime
    omega

/-! ## Discharges and reserve shares (R115, R143) -/

theorem mul_ceilDiv_range {d : Nat} (n : Nat) (h : 0 < d) : n ≤ d * ceilDiv n d ∧ d * ceilDiv n d ≤ n + d - 1 := by
  have hlow := Nat.lt_mul_div_succ (n + d - 1) h
  have hhigh := Nat.mul_div_le (n + d - 1) d
  rw [Nat.mul_add] at hlow
  unfold ceilDiv
  omega

/-- Each request covers its part of what the offers can cover. -/
theorem dischargeOf_covers {overdraw total : Nat} (own : Nat) (h : 0 < overdraw) (ht : 0 < total) :
    min overdraw total * own ≤ total * dischargeOf overdraw own total := by
  rcases Nat.eq_zero_or_pos own with rfl | hown
  · simp
  rw [dischargeOf, if_pos ⟨h, hown⟩]
  rcases Nat.le_total own (ceilDiv (overdraw * own) total) with hcase | hcase
  · rw [Nat.min_eq_left hcase]
    exact Nat.mul_le_mul_right own (Nat.min_le_right ..)
  · rw [Nat.min_eq_right hcase]
    exact (Nat.mul_le_mul_right own (Nat.min_le_left ..)).trans (mul_ceilDiv_range _ ht).1

/-- Each request of a post that offers exceeds its part of the overdraw by less than one unit. -/
theorem dischargeOf_excess {overdraw total : Nat} (own : Nat) (ht : 0 < total) :
    total * dischargeOf overdraw own total ≤ overdraw * own + (if 0 < own then total - 1 else 0) := by
  unfold dischargeOf
  split
  next h =>
    have hceil := (mul_ceilDiv_range (overdraw * own) ht).2
    have hmin := Nat.mul_le_mul_left total (Nat.min_le_right own (ceilDiv (overdraw * own) total))
    rw [if_pos h.2]
    omega
  · simp

theorem dischargeOf_le (overdraw own total : Nat) : dischargeOf overdraw own total ≤ own := by
  unfold dischargeOf
  split
  · exact Nat.min_le_left ..
  · exact Nat.zero_le _

theorem sum_dischargeOf_covers {overdraw total : Nat} (h : 0 < overdraw) (ht : 0 < total) (offers : List Nat) :
    min overdraw total * offers.sum ≤ total * (offers.map fun o => dischargeOf overdraw o total).sum := by
  induction offers with
  | nil => simp
  | cons o offers ih =>
    have := dischargeOf_covers o h ht
    simp only [List.map_cons, List.sum_cons, Nat.mul_add]
    omega

theorem sum_dischargeOf_excess {overdraw total : Nat} (ht : 0 < total) (offers : List Nat) :
    total * (offers.map fun o => dischargeOf overdraw o total).sum
      ≤ overdraw * offers.sum + (total - 1) * (offers.filter (0 < ·)).length := by
  induction offers with
  | nil => simp
  | cons o offers ih =>
    have hown := dischargeOf_excess (overdraw := overdraw) o ht
    simp only [List.map_cons, List.sum_cons, Nat.mul_add, List.filter_cons, decide_eq_true_eq]
    split at hown
    next hpos => simp only [hpos, if_true, List.length_cons, Nat.mul_add, Nat.mul_one]; omega
    next hzero => simp only [hzero, if_false]; omega

/-- The requests of one view cover the overdraw as far as the offers reach, and exceed it by less than one unit for each
post that offers (R115). -/
theorem dischargeOf_sum (offers : List Nat) (overdraw : Nat) :
    min overdraw offers.sum ≤ (offers.map fun o => dischargeOf overdraw o offers.sum).sum
      ∧ (0 < overdraw → 0 < offers.sum →
        (offers.map fun o => dischargeOf overdraw o offers.sum).sum
          < overdraw + (offers.filter (0 < ·)).length) := by
  constructor
  · rcases Nat.eq_zero_or_pos overdraw with rfl | h
    · simp
    rcases Nat.eq_zero_or_pos offers.sum with hzero | ht
    · simp [hzero]
    · have hcovers := sum_dischargeOf_covers h ht offers
      rw [Nat.mul_comm] at hcovers
      exact Nat.le_of_mul_le_mul_left hcovers ht
  · intro h ht
    have hsome : 0 < (offers.filter (0 < ·)).length := by
      rw [List.length_pos_iff_exists_mem]
      by_contra hnone
      have hzero : offers.sum = 0 := List.sum_eq_zero fun o ho => by
        by_contra hne
        exact hnone ⟨o, List.mem_filter.mpr ⟨ho, by simpa using Nat.pos_of_ne_zero hne⟩⟩
      omega
    have hexcess := sum_dischargeOf_excess (overdraw := overdraw) ht offers
    refine Nat.lt_of_mul_lt_mul_left (a := offers.sum) (lt_of_le_of_lt hexcess ?_)
    rw [Nat.mul_add, Nat.mul_comm offers.sum overdraw]
    exact Nat.add_lt_add_left (Nat.mul_lt_mul_of_pos_right (by omega) hsome) _

/-- The shares of one commitment sum to no more than it (R143). -/
theorem sum_shareOf_le (offers : List Nat) (commitment isldiv : Nat) :
    (offers.map fun o => (shareOf commitment isldiv false o offers.sum).1).sum ≤ commitment := by
  unfold shareOf
  by_cases hnone : commitment = 0
  · simp [hnone]
  by_cases hfits : offers.sum ≤ commitment
  · simp [hnone, hfits]
  · simp only [hnone, hfits, if_false, Bool.false_eq_true]
    refine (sum_div_le offers (fun o => commitment * o) offers.sum).trans ?_
    rw [List.sum_map_mul_left, List.map_id']
    exact Nat.div_le_of_le_mul (Nat.mul_comm _ _).le

/-- Settles O41: the requests by their ceilings, the shares by their floors. -/
theorem dischargesAndReserveSharesAddUp : Obligations.DischargesAndReserveSharesAddUp := by
  rintro offers total rfl
  refine ⟨fun overdraw => ⟨fun own => rfl, fun o _ => dischargeOf_le overdraw o _, dischargeOf_sum offers overdraw⟩,
    fun commitment isldiv alone => ⟨fun own => rfl, fun o _ => shareOf_le commitment isldiv alone o _,
      sum_shareOf_le offers commitment isldiv, fun o _ => ?_, fun o _ => ?_⟩⟩
  · unfold shareOf
    split
    · exact Nat.zero_le _
    · exact Nat.min_le_right ..
  · unfold shareOf
    by_cases hnone : commitment = 0
    · simp [hnone]
    by_cases hfits : offers.sum ≤ commitment
    · simp [hnone, hfits, Nat.pos_of_ne_zero hnone]
    · simp [hnone, hfits]

/-! ## The dither (R158) -/

/-- Settles O48: the three cases of the output, and how near the clamped multiples lie to the clamps. -/
theorem ditherKeepsEveryUnit : Obligations.DitherKeepsEveryUnit := by
  rintro q lower upper target e low high raw hq hlower hupper - - hlow rfl rfl
  have hq' : (0 : Int) < q := by exact_mod_cast hq
  have hlow' : low = demandLow q lower := by rw [hlow, demandLow, Int.mul_neg]
  obtain ⟨h1, h2, h3, h4, h5⟩ := dithered_range hq hlower hupper target e
  have hlowFloor := Int.mul_ediv_self_le (x := -lower) hq'.ne'
  have hlowNear := Int.lt_mul_ediv_self_add (x := -lower) hq'
  have hhighFloor := Int.mul_ediv_self_le (x := upper) hq'.ne'
  have hhighNear := Int.lt_mul_ediv_self_add (x := upper) hq'
  have hlowSign := mul_nonneg hq'.le (Int.ediv_nonneg (neg_nonneg.mpr hlower) hq'.le)
  have hhighSign := mul_nonneg hq'.le (Int.ediv_nonneg hupper hq'.le)
  rw [Int.mul_neg] at hlow
  refine ⟨?_, ?_, h3, h1, h2, h4, h5, by omega, by omega, hhighSign, hhighFloor, by omega, by omega⟩
  · rw [hlow']
    unfold dithered ditherOf demandHigh
    repeat' split
    all_goals rfl
  · rw [hlow']
    unfold dithered ditherOf demandHigh
    split
    next h => rw [if_pos (.inl h)]
    next hnotLow =>
    split
    next h => rw [if_pos (.inr h)]
    next hnotHigh => rw [if_neg (by tauto)]

end Sys2Proof.Machine

/-! PROOFS. The depot link's timers and transmissions: the entry to RUNNING, the ANNOUNCE that is built, the frame that
is sent, and how a transmission ends (Chapters 4 and 6). -/

namespace Sys2Proof.Machine

/-! ## The entry to RUNNING and to ALONE (R69, R70, R92) -/

theorem Role.eq_post_or_meter : ∀ r : Role, r = .post ∨ r = .meter
  | .post => .inl rfl
  | .meter => .inr rfl

/-- All that an entry to ALONE does: the cause, and in the POST role the cuts to the island portion (R92, R117, R144). -/
theorem enterAlone_effect {s : State} {w : WorkingCopy} (hw : s.store.working = some w) :
    (enterAlone s).peers = { s.peers with alone := true }
      ∧ (enterAlone s).service = { s.service with pendingCauses := s.service.pendingCauses ||| 64#12 }
      ∧ (w.role = .post → (enterAlone s).share = shareAlone w s.tracker.claim s.share
          ∧ (enterAlone s).reserve = reserveAlone w s.reserve)
      ∧ (w.role = .meter → (enterAlone s).share = s.share ∧ (enterAlone s).reserve = s.reserve) := by
  obtain hpost | hmeter := Role.eq_post_or_meter w.role
  · simp [enterAlone, hw, hpost, withCause, Cause.bit, BitVec.twoPow]
  · simp [enterAlone, hw, hmeter, withCause, Cause.bit, BitVec.twoPow]

theorem decideAlone_empty {s : State} (hrun : s.link.station = .running) (hempty : s.peers.entries = []) :
    decideAlone s = enterAlone s := if_pos ⟨hrun, hempty⟩

theorem decideAlone_nonempty {s : State} (h : s.peers.entries ≠ []) : decideAlone s = s := if_neg fun k => h k.2

theorem decideAlone_notRunning {s : State} (h : s.link.station ≠ .running) : decideAlone s = s := if_neg fun k => h k.1

/-- The link and the share engine as RUNNING is entered, before ALONE is decided (R69, R70, R104). -/
theorem enterRunning_eq (w : WorkingCopy) (s : State) :
    enterRunning w s = decideAlone ((s.setLink
      { s.link with
        station := .running, listenTimer := none, sequence := some (sequenceLoad (sequenceSeed w.station))
        announceTimer := some (millis (reloadOf w (sequenceLoad (sequenceSeed w.station)))) }).setShare
      { s.share with lastAllocation := allocationStart w s.clock s.share.lastAllocation }) := rfl

/-- Settles O26: the seed and the reload of `enterRunning_eq`, then ALONE by whether the table is empty. -/
theorem listenPeriodEndsInRunning : Obligations.ListenPeriodEndsInRunning := by
  intro s
  refine ⟨fun h => ?_, fun w x share island hisland hw hstation htimer hx hshare => ?_⟩
  · have hnot : (due s.link.listenTimer && s.link.station == .listening) = false := by
      rw [Bool.eq_false_iff]
      simpa [imp_iff_not_or] using h
    show Host.Outcome.next (listenExpired s) = _
    cases hw : s.store.working <;> simp [listenExpired, hw, hnot]
  · have hexec : exec .listenTimerExpiry s = .next (enterRunning w s) := by
      show Host.Outcome.next (listenExpired s) = _
      simp [listenExpired, hw, hstation, htimer]
    have hloaded : sequenceLoad (sequenceSeed w.station) = x := by
      rw [hx, sequenceLoad, sequenceSeed, Nat.mul_comm]
    refine ⟨_, hexec, ?_⟩
    rw [enterRunning_eq, hloaded, show ({ s.share with
      lastAllocation := allocationStart w s.clock s.share.lastAllocation } : Share) = share from hshare.symm]
    refine ⟨decideAlone_frame _ |>.2.2.2.1, fun hheard => ?_, fun hempty => ?_⟩
    · rw [decideAlone_nonempty (by simpa using hheard)]
      exact ⟨rfl, unchangedExcept_of_same⟩
    · rw [decideAlone_empty rfl (by simpa using hempty)]
      obtain ⟨hpeers, hservice, hpost, hmeter⟩ :=
        enterAlone_effect (s := (s.setLink _).setShare share) (w := w) (by simpa using hw)
      refine ⟨hpeers.trans (by simp [hempty]), hservice, fun hrole => ?_, fun hrole => ?_, unchangedExcept_of_same⟩
      · obtain ⟨hcut, hlowered⟩ := hpost hrole
        rw [hcut, hlowered, hisland, hshare]
        exact ⟨rfl, rfl⟩
      · obtain ⟨hkept, hunit⟩ := hmeter hrole
        rw [hkept, hunit, hshare]
        simp [hrole]

/-! ## The ANNOUNCE that is built (R71, R72) -/

/-- The bits of the flags byte, from bit 0 (R71). -/
theorem flagsByte_bits : ∀ (present halted alone shedHold short : Bool) (i : Nat),
    (flagsByte present halted alone shedHold short).getLsbD i = [present, halted, alone, shedHold, short].getD i false := by
  intro present halted alone shedHold short i
  by_cases hi : i < 8
  · revert present halted alone shedHold short
    interval_cases i <;> decide
  · rw [BitVec.getLsbD_of_ge _ _ (by omega), List.getD_eq_default _ _ (by simp; omega)]

theorem flagsByte_alone : ∀ alone : Bool, flagsByte false false alone false false = if alone then 4 else 0 := by decide

/-- The codes of the readiness states (R71, 10.5). -/
theorem readiness_code_mem : ∀ r : Readiness, (r, byteOf r.code) ∈
    [(Readiness.vacant, (0 : Byte)), (.linking, 1), (.unplanned, 2), (.charging, 3), (.atRisk, 4), (.topped, 5),
      (.conditioning, 6), (.due, 7), (.halted, 8)] := by
  intro r
  cases r <;> decide

theorem ownAnnounce_post {s : State} {w : WorkingCopy} (h : w.role = .post) : s.ownAnnounce w = s.postAnnounce w :=
  if_pos h

theorem ownAnnounce_meter {s : State} {w : WorkingCopy} (h : w.role = .meter) : s.ownAnnounce w = s.meterAnnounce w :=
  if_neg (by simp [h])

theorem ownAnnounce_station (s : State) (w : WorkingCopy) : (s.ownAnnounce w).station = byteOf w.station := by
  obtain h | h := Role.eq_post_or_meter w.role
  · rw [ownAnnounce_post h]; rfl
  · rw [ownAnnounce_meter h]; rfl

/-- Settles O28: the two builds, field by field. -/
theorem announceIsBuiltFromCurrentValues : Obligations.AnnounceIsBuiltFromCurrentValues := by
  intro s byte word hbyte hword
  refine ⟨fun h => ?_, fun w hw hstation htimer => ?_⟩
  · have hnot : (due s.link.announceTimer && s.link.station == .running) = false := by
      rw [Bool.eq_false_iff]
      simpa [imp_iff_not_or] using h
    show Host.Outcome.next (announceExpired s) = _
    cases hw : s.store.working <;> simp [announceExpired, hw, hnot]
  · have hexec : exec .announceTimerExpiry s = .next (putAnnounceInHand w s) := by
      show Host.Outcome.next (announceExpired s) = _
      simp [announceExpired, hw, hstation, htimer]
    obtain rfl : byte = byteOf := funext hbyte
    obtain rfl : word = wordOfNat := funext hword
    refine ⟨_, s.ownAnnounce w, hexec, rfl, ownAnnounce_station s w, fun hpost => ?_, fun hmeter => ?_,
      unchangedExcept_of_same⟩
    · rw [ownAnnounce_post hpost]
      refine ⟨rfl, fun i => ?_, readiness_code_mem _, rfl, rfl, rfl, rfl, rfl, rfl, rfl, rfl, rfl⟩
      rw [State.postAnnounce, flagsByte_bits]
      simp [bne, beq_eq_decide]
    · rw [ownAnnounce_meter hmeter, State.meterAnnounce, flagsByte_alone]
      cases s.composer.feederSample <;> rfl

/-! ## Sending (R66, R73) -/

/-- Sensing keeps what the transmitter chooses from. -/
theorem senseIdle_hands (micros : Nat) (s : State) :
    (senseIdle micros s).link.shedHand = s.link.shedHand
      ∧ (senseIdle micros s).link.announceHand = s.link.announceHand := by
  unfold senseIdle
  split <;> exact ⟨rfl, rfl⟩

theorem senseIdle_stationNumber (micros : Nat) (s : State) : (senseIdle micros s).stationNumber = s.stationNumber := by
  simp [State.stationNumber]

/-- A SHED in hand is ready once the line has been idle for its time (R73). -/
theorem Link.shedReady_iff {station micros : Nat} {k : Link} (h : k.idleTime = micros) :
    k.shedReady station = true ↔ ∃ f, k.shedHand = some f ∧ requiredIdle station f.attempts ≤ micros := by
  subst h
  cases hf : k.shedHand <;> simp [Link.shedReady, hf]

/-- An ANNOUNCE in hand is ready once the line has been idle for its time (R73). -/
theorem Link.announceReady_iff {station micros : Nat} {k : Link} (h : k.idleTime = micros) :
    k.announceReady station = true ↔ ∃ f, k.announceHand = some f ∧ requiredIdle station f.attempts ≤ micros := by
  subst h
  cases hf : k.announceHand <;> simp [Link.announceReady, hf]

/-- A transmission starts on an undriven line alone (R73). -/
theorem exec_transmissionStart (micros : Nat) (s : State) :
    exec (.transmissionStart micros) s = .next (transmissionStarted micros s) := rfl

/-- Settles O29: the idle time is sensed, and in RUNNING the ready frame is the SHED, or else the ANNOUNCE. -/
theorem readyFrameIsTransmitted : Obligations.ReadyFrameIsTransmitted := by
  intro s u micros receiver required hu hreceiver hrequired
  have hsensed : senseIdle micros s = u := hu.symm
  refine ⟨fun h => ?_, fun hfree => ?_⟩
  · rw [exec_transmissionStart, transmissionStarted, if_neg h]
  have hidle : u.link.idleTime = micros := hsensed ▸ senseIdle_idleTime micros s hfree
  have hnumber : u.stationNumber = s.stationNumber := hsensed ▸ senseIdle_stationNumber micros s
  have hhands := senseIdle_hands micros s
  rw [hsensed] at hhands
  obtain ⟨hshed, hannounce⟩ := hhands
  have hneeded : required = requiredIdle s.stationNumber := funext hrequired
  have hstarts : u.link.receiverAtStart = receiver := by rw [hreceiver, Link.receiverAtStart, hidle]; rfl
  obtain ⟨hfirst, hsecond, hneither⟩ := Link.startReady_effect s.stationNumber receiver u.link
  have hshedIff := Link.shedReady_iff (station := s.stationNumber) hidle
  have hannounceIff := Link.announceReady_iff (station := s.stationNumber) hidle
  rw [hshed] at hshedIff
  rw [hannounce] at hannounceIff
  subst hneeded
  refine ⟨hidle, _, exec_transmissionStart micros s, ?_⟩
  by_cases hrun : s.link.station = .running
  · have hsent : transmissionStarted micros s = u.setLink (u.link.startReady s.stationNumber receiver) := by
      rw [transmissionStarted, if_pos hfree, if_pos hrun, hsensed, sendReady, hnumber, hstarts]
    rw [hsent]
    refine ⟨unchangedExcept_of_same, fun h => absurd hrun h, fun _ => ⟨fun h hhand hready => ?_, fun hnotShed => ?_⟩⟩
    · rw [hfirst (hshedIff.mpr ⟨h, hhand, hready⟩), State.setLink_link, Link.startShed, hshed, hhand]
      rfl
    · have hnoShed : u.link.shedReady s.stationNumber = false := by
        rw [Bool.eq_false_iff, Ne, hshedIff]
        rintro ⟨h, hhand, hready⟩
        exact absurd (hnotShed h hhand) (by omega)
      refine ⟨fun h hhand hready => ?_, fun hnotAnnounce => ?_⟩
      · rw [hsecond hnoShed (hannounceIff.mpr ⟨h, hhand, hready⟩), State.setLink_link, Link.startAnnounce, hannounce,
          hhand]
        rfl
      · have hnoAnnounce : u.link.announceReady s.stationNumber = false := by
          rw [Bool.eq_false_iff, Ne, hannounceIff]
          rintro ⟨h, hhand, hready⟩
          exact absurd (hnotAnnounce h hhand) (by omega)
        rw [hneither hnoShed hnoAnnounce, State.setLink_self]
  · have hquiet : transmissionStarted micros s = u := by
      rw [transmissionStarted, if_pos hfree, if_neg hrun, hsensed]
    rw [hquiet]
    exact ⟨unchangedExcept_refl _ _, fun _ => rfl, fun h => absurd h hrun⟩

/-! ## The ends of a transmission (R74 to R76) -/

theorem loadAnnounceTimer_dropped (w : WorkingCopy) (k : Link) (n m : Nat) :
    Link.loadAnnounceTimer w { k with collisions := n, dropped := m } =
      { Link.loadAnnounceTimer w k with collisions := n, dropped := m } := by
  unfold Link.loadAnnounceTimer
  cases h : k.sequence <;> simp [h]

@[simp] theorem loadAnnounceTimer_line (w : WorkingCopy) (k : Link) :
    (Link.loadAnnounceTimer w k).station = k.station
      ∧ (Link.loadAnnounceTimer w k).transmitting = k.transmitting
      ∧ (Link.loadAnnounceTimer w k).idleTime = k.idleTime ∧ (Link.loadAnnounceTimer w k).receiver = k.receiver := by
  unfold Link.loadAnnounceTimer
  split <;> exact ⟨rfl, rfl, rfl, rfl⟩

/-- The own ANNOUNCE that leaves the hand changes the link and what an allocation changes. -/
theorem announceLeaves_eq (w : WorkingCopy) (s : State) :
    announceLeaves w s =
      (allocationEvent s).setLink (Link.loadAnnounceTimer w { s.link with announceHand := none }) :=
  allocationEvent_setLink _ _ (by simp)

/-- The completion of an own ANNOUNCE (R75). -/
theorem exec_transmissionComplete_announce {s : State} {w : WorkingCopy} (hw : s.store.working = some w)
    (h : s.link.transmitting = some .announce) :
    exec .transmissionComplete s = .next ((allocationEvent s).setLink
      (Link.loadAnnounceTimer w { s.link.stopDriving with announceHand := none })) := by
  have hstation : s.link.stopDriving.station = s.link.station := by unfold Link.stopDriving; split <;> rfl
  show Host.Outcome.next (completed s) = _
  rw [completed, h, hw]
  simp only [announceLeaves_eq, State.setLink_link]
  rw [allocationEvent_setLink _ _ hstation, State.setLink_twice]

/-- Settles O30: below four attempts the link alone is touched; after the fourth the two counts are all that sets the
drop apart from a completion. -/
theorem collidedAnnounceIsKeptOrDropped : Obligations.CollidedAnnounceIsKeptOrDropped := by
  intro s w h hw htx hhand
  have hstop := (Link.stopDriving_effect s.link).2 (by simp [htx])
  have hexec : exec .collision s = .next (collidedAnnounce w h.attempts (s.setLink s.link.abandon)) := by
    show Host.Outcome.next (collided s) = _
    simp [collided, htx, hw, hhand]
  refine ⟨_, hexec, fun hfew => ?_, fun hmany => ⟨_, exec_transmissionComplete_announce hw htx, ?_⟩⟩
  · rw [collidedAnnounce, if_pos hfew, State.setLink_link, Link.abandon, hstop]
    exact ⟨rfl, unchangedExcept_of_same⟩
  · have hdrop : collidedAnnounce w h.attempts (s.setLink s.link.abandon) = (allocationEvent s).setLink
        { Link.loadAnnounceTimer w { s.link.stopDriving with announceHand := none } with
          collisions := bump 65535 s.link.collisions, dropped := bump 65535 s.link.dropped } := by
      rw [collidedAnnounce, if_neg (by omega), announceLeaves_eq, State.setLink_twice,
        allocationEvent_setLink _ _ (by simp [Link.abandon, hstop]), State.setLink_twice, ← loadAnnounceTimer_dropped,
        Link.abandon, hstop]
      rfl
    rw [hdrop]
    refine ⟨rfl, ?_, ?_, ?_, unchangedExcept_of_same⟩ <;> simp [hstop]

/-- Settles O31: how a SHED's transmission ends, by what waits behind it and by its attempts. -/
theorem shedTransmissionsEnd : Obligations.ShedTransmissionsEnd := by
  intro s h hworking htx hhand
  obtain ⟨w, hw⟩ := Option.isSome_iff_exists.mp hworking
  have hstop := (Link.stopDriving_effect s.link).2 (by simp [htx])
  have hcomplete : exec .transmissionComplete s = .next (s.setLink s.link.stopDriving.nextShed) := by
    show Host.Outcome.next (completed s) = _
    simp [completed, htx, hw]
  have hcollision : exec .collision s = .next (s.setLink (s.link.abandon.collidedShed h.attempts)) := by
    show Host.Outcome.next (collided s) = _
    simp [collided, htx, hw, hhand]
  refine ⟨⟨_, hcomplete, ?_, unchangedExcept_of_same⟩, _, _, hcollision, rfl, fun f hwaits => ?_,
    fun hnone hfew => ?_, fun hnone hmany => ?_, unchangedExcept_of_same⟩
  · rw [State.setLink_link, hstop]
    rfl
  · simp [Link.collidedShed, Link.nextShed, Link.abandon, hstop, hwaits, bump]
  · simp [Link.collidedShed, Link.abandon, hstop, hnone, hfew, bump]
  · simp [Link.collidedShed, Link.abandon, hstop, hnone, Nat.not_lt.mpr hmany, bump]

end Sys2Proof.Machine

/-! PROOFS. The allocation that follows a completed ANNOUNCE: its sums and budget, the allowance, tenure, the overdraw
discharge, and the parts of the reserve commitments (Chapters 5, 6, 7). -/

namespace Sys2Proof.Machine

/-! ## The completed ANNOUNCE -/

/-- What the completion of an own ANNOUNCE does, by the allocation it hands on (R75). -/
theorem exec_transmissionComplete_allocates {s : State} {w : WorkingCopy} (hw : s.store.working = some w)
    (htx : s.link.transmitting = some .announce) :
    ∃ t, exec .transmissionComplete s = .next t ∧ t.share = (allocationEvent s).share
      ∧ t.reserve = (allocationEvent s).reserve ∧ t.service = (allocationEvent s).service
      ∧ t.link = Link.loadAnnounceTimer w
          { s.link with transmitting := none, idleTime := 0, receiver := .deaf 0, announceHand := none }
      ∧ unchangedExcept [.link, .share, .reserve, .service] s t := by
  have hexec := exec_transmissionComplete_announce hw htx
  rw [(Link.stopDriving_effect s.link).2 (by simp [htx])] at hexec
  exact ⟨_, hexec, rfl, rfl, rfl, rfl, unchangedExcept_of_same⟩

/-! ## Sums (R94 to R97) -/

theorem isPost_eq_any (s : State) : s.isPost = s.store.working.any fun w => w.role == .post := by
  cases hw : s.store.working <;> simp [State.isPost, State.role, hw]

theorem ownContribution_post {s : State} (h : s.isPost = true) :
    s.ownContribution = { urgency := s.tracker.urgency, claim := s.tracker.claim, held := s.share.held
                          draw := s.composer.draw, offerUp := s.reserve.offerUp, offerDown := s.reserve.offerDown
                          dischargeOffer := s.account.offer } := if_pos h

/-! ## Tenure (R111 to R113) -/

section
variable {w : WorkingCopy} {contested : Bool} {interval a : Nat} {sh : Share}

/-- Tenure that has run out ends (R112). -/
theorem updateTenure_ended (hon : sh.tenure = true) (h : countedDown sh contested interval ≤ 0) :
    updateTenure w false contested interval a sh = { endTenure sh with allowance := a } := by
  simp [updateTenure, hon, h]

/-- Tenure goes on, H following A down (R112, R113). -/
theorem updateTenure_runs (hon : sh.tenure = true) (h : 0 < countedDown sh contested interval) :
    updateTenure w false contested interval a sh =
      setAllowance a { sh with tenureLeft := countedDown sh contested interval } := by
  simp [updateTenure, hon, h]

/-- A rising allowance starts tenure (R111). -/
theorem updateTenure_starts (hoff : sh.tenure = false) (htenure : 0 < w.tenure) (h : sh.allowance < a) :
    updateTenure w false contested interval a sh =
      { sh with allowance := a, held := a, tenure := true, tenureLeft := (w.tenure : Int) * 1000 } := by
  simp [updateTenure, hoff, h, htenure]

/-- Without tenure or a rise, no tenure starts (R111). -/
theorem updateTenure_stays (hoff : sh.tenure = false) (h : w.tenure = 0 ∨ a ≤ sh.allowance) :
    updateTenure w false contested interval a sh = setAllowance a sh := by
  have hnot : ¬(0 < w.tenure ∧ sh.allowance < a) := by omega
  simp [updateTenure, hoff, hnot]

/-- Beyond A, H, tenure and T_left the update changes nothing, and A becomes what was allocated. -/
theorem updateTenure_rest (alone : Bool) :
    updateTenure w alone contested interval a sh = { sh with
      allowance := a, held := (updateTenure w alone contested interval a sh).held
      tenure := (updateTenure w alone contested interval a sh).tenure
      tenureLeft := (updateTenure w alone contested interval a sh).tenureLeft } := by
  unfold updateTenure
  simp only [setAllowance_eq]
  repeat' split
  all_goals rfl

end

/-! ## Allocations with others heard -/

/-- Settles O32: the sums are those of the own contribution and the POST entries; the allocation is
`allocationEvent_share`, its tenure by the four cases above. -/
theorem completedAnnounceAllocates : Obligations.CompletedAnnounceAllocates := by
  refine ⟨fun s own posts hown hposts => ?_, ?_⟩
  · rw [← isPost_eq_any] at hown
    obtain rfl : s.ownContribution = own := hown.symm
    subst hposts
    have hmap : ∀ {α : Type} (g : Contribution → α), s.peerContributions.map g =
        (s.peers.entries.filter fun p => p.role == .post).map fun p => g p.contribution :=
      fun g => List.map_map ..
    refine ⟨rfl, rfl, ?_, ?_, ?_, ?_, ?_⟩
    · rw [totalDraw, State.contributions, List.map_cons, List.sum_cons, hmap]; rfl
    · rw [positiveDraw, State.contributions, List.map_cons, List.sum_cons, hmap]; rfl
    · rw [totalOfferUp, State.contributions, List.map_cons, List.sum_cons, hmap]; rfl
    · rw [totalOfferDown, State.contributions, List.map_cons, List.sum_cons, hmap]; rfl
    · rw [totalDischarge, State.contributions, List.map_cons, List.sum_cons, hmap]; rfl
  · intro s w x meter siteLoad headroom b allowance interval contested hw hpost hrun htx hx halone hmeter hload hhead hb
      hallowance hcontested hinterval
    obtain ⟨t, hexec, hshare, -, -, hlink, hframe⟩ := exec_transmissionComplete_allocates hw htx
    have hgoverning : s.meterHeard = meter := by simp [State.meterHeard, halone, governingMeter, hmeter]
    have hbudget : s.budgetNow w = b := by
      have hsite : siteLoadOf w (meter.map Peer.feederLoad) (totalDraw s.contributions) = siteLoad := by
        rw [hload]; cases meter <;> rfl
      have hraw : headroomOf w siteLoad = headroom := by rw [hhead]; rfl
      rw [State.budgetNow, hgoverning, budgetOf, hsite, hraw, hb]
      rfl
    have hcontestedNow : s.contestedNow w = contested := by
      simp [State.contestedNow, halone, State.tiersNow, hbudget, hcontested]
    have hcapped : capped s.share (s.computedAllowance w) = allowance := by
      rw [hallowance]; simp [capped, State.computedAllowance, halone, State.tiersNow, hbudget]
    rw [allocationEvent_share hw, if_pos hpost, if_pos hrun] at hshare
    simp only [State.allocated, hbudget, hcontestedNow, hcapped, halone,
      show s.allocationInterval = interval from hinterval.symm] at hshare
    have hrest := updateTenure_rest (w := w) (contested := contested) (interval := interval) (a := allowance)
      (sh := s.share) false
    have hheld : t.share.held = (updateTenure w false contested interval allowance s.share).held := by rw [hshare]
    have htenure : t.share.tenure = (updateTenure w false contested interval allowance s.share).tenure := by rw [hshare]
    have hleft : t.share.tenureLeft = (updateTenure w false contested interval allowance s.share).tenureLeft := by
      rw [hshare]
    refine ⟨t, hexec, ?_, ?_, ?_, fun hoff hstart hrise => ?_, fun hoff hnot hzero => ?_, fun left hon hcount => ?_, hframe⟩
    · rw [hlink]
      exact loadAnnounceTimer_eq (by exact hx)
    · rw [hshare, hrest]
    · rw [hshare]
      rfl
    · rw [hheld, htenure, hleft, updateTenure_starts hoff hstart hrise]
      exact ⟨rfl, rfl, rfl⟩
    · rw [hheld, htenure, updateTenure_stays hoff hnot, setAllowance_eq]
      simp [hoff, hzero]
    · rw [hheld, htenure, hleft]
      have hcounted : countedDown s.share contested interval = left := hcount.symm
      refine ⟨fun hend => ?_, fun hgo => ?_⟩
      · rw [updateTenure_ended hon (hcounted ▸ hend)]
        exact ⟨rfl, rfl⟩
      · rw [updateTenure_runs hon (hcounted ▸ hgo), setAllowance_eq, hcounted]
        refine ⟨rfl, fun hpos => ?_, fun hzero => ?_⟩
        · simp only [hon, Bool.true_and, decide_eq_true_eq]
          exact ⟨by omega, if_neg (by omega)⟩
        · simp [hzero]

/-! ## The island (R110) -/

/-- With none heard the own offer covers the overdraw by itself (R115). -/
theorem dischargeOf_own (overdraw own : Nat) : dischargeOf overdraw own own = min own overdraw := by
  unfold dischargeOf
  split
  next h =>
    have hdiv : ceilDiv (overdraw * own) own = overdraw := by
      rw [ceilDiv, Nat.add_sub_assoc (by omega), Nat.add_comm, Nat.add_mul_div_right _ _ h.2,
        Nat.div_eq_of_lt (by omega), Nat.zero_add]
    rw [hdiv]
  next h => omega

/-- Settles O33: with ALONE in force neither tiers nor tenure are used; a meter's share engine is not touched. -/
theorem aloneAllocationIsTheIsland : Obligations.AloneAllocationIsTheIsland := by
  intro s w hw hrun htx
  obtain ⟨t, hexec, hshare, hreserve, hservice, -, hframe⟩ := exec_transmissionComplete_allocates hw htx
  obtain ⟨hunit, hcause⟩ := allocationEvent_reserve hw
  rw [allocationEvent_share hw] at hshare
  refine ⟨fun island hpost halone hempty hisland => ?_, fun hmeter => ?_⟩
  · rw [if_pos hpost, if_pos hrun] at hshare
    have hcomputed : s.computedAllowance w = island := by
      rw [State.computedAllowance, if_pos halone, hisland]; rfl
    have hcapped : capped s.share (s.computedAllowance w) = if s.share.shedHold then min island s.share.shedCap else island :=
      by rw [hcomputed]; rfl
    have hsums : totalDischarge s.contributions = s.account.offer := by
      simp [State.contributions, State.peerContributions, hempty, totalDischarge,
        ownContribution_post (isPost_of_role hw hpost)]
    have hdischarge : t.share.discharge = min s.account.offer (s.budgetNow w).overdraw := by
      have hrequest : (s.allocated w).discharge =
          dischargeOf (s.budgetNow w).overdraw s.account.offer (totalDischarge s.contributions) := rfl
      rw [hshare, hrequest, hsums, dischargeOf_own]
    have hheadroom : (s.budgetNow w).headroom = (w.fcap : Int) - w.site - ((w.fcap * w.guard / 1000 : Nat) : Int) := by
      rw [State.budgetNow, State.meterHeard, if_pos halone]; rfl
    have hoverdraw : (s.budgetNow w).overdraw = (-(s.budgetNow w).headroom).toNat := rfl
    have hbudget : (s.budgetNow w).budget = ((s.budgetNow w).headroom - w.upcommit).toNat := rfl
    have hsite : (s.budgetNow w).meter = none ∧ (s.budgetNow w).feederLoad = none ∧ (s.budgetNow w).siteLoad = w.site := by
      rw [State.budgetNow, State.meterHeard, if_pos halone]; exact ⟨rfl, rfl, rfl⟩
    refine ⟨t, hexec, ?_, ⟨s.budgetNow w, ?_, hsite.1, hsite.2.1, hsite.2.2, rfl, rfl, hheadroom, ?_, fun _ => hdischarge,
      ?_, ?_⟩, hframe⟩
    · rw [hshare, State.allocated, hcapped]
      simp [updateTenure, halone, endTenure, State.contestedNow, State.allocationInterval]
    · rw [hshare]; rfl
    · intro hnonneg
      rw [hdischarge, hoverdraw]
      omega
    · rw [hoverdraw]; omega
    · rw [hbudget]; omega
  · have hdivides : s.divides = false := by
      simp [State.divides, State.offers, State.responds, State.isPost, State.role, hw, hmeter]
    have hnotPost : w.role ≠ .post := by simp [hmeter]
    rw [if_neg hnotPost] at hshare
    rw [hunit, hdivides] at hreserve
    have hkept : t.service = s.service := by
      simpa [hcause, hdivides] using hservice
    refine ⟨t, hexec, hshare, ?_, ?_⟩
    · rw [hreserve]
      simp [lowerResponse, clampInt]
    · intro b hb
      by_cases hblock : b = .share ∨ b = .service
      · rcases hblock with rfl | rfl
        · exact hshare
        · exact hkept
      · exact hframe b (by simp_all)

/-! ## The parts of the commitments (R143 to R145) -/

/-- Settles O34: by whether the unit divides, which is whether its state is STARTING or MEASURING. -/
theorem allocationDividesTheCommitments : Obligations.AllocationDividesTheCommitments := by
  refine ⟨fun s w hw hpost hrun htx hdead => ?_, fun s w up down shortUp shortDown hw hpost hrun htx hlive hup hdown => ?_⟩
  · obtain ⟨t, hexec, -, hreserve, hservice, -, hframe⟩ := exec_transmissionComplete_allocates hw htx
    obtain ⟨hunit, hcause⟩ := allocationEvent_reserve hw
    have hdivides : s.divides = false := by
      rcases hdead with h | h <;> simp [State.divides, State.offers, h]
    rw [hunit, hdivides] at hreserve
    have hkept : t.service = s.service := by
      simpa [hcause, hdivides] using hservice
    refine ⟨t, hexec, ?_, ?_⟩
    · rw [hreserve]
      simp [lowerResponse, clampInt]
    · intro b hb
      by_cases hblock : b = .service
      · subst hblock
        exact hkept
      · exact hframe b (by simp_all)
  · obtain ⟨t, hexec, -, hreserve, hservice, -, hframe⟩ := exec_transmissionComplete_allocates hw htx
    obtain ⟨hunit, hcause⟩ := allocationEvent_reserve hw
    have hdivides : s.divides = true := by
      rcases hlive with h | h <;>
        simp [State.divides, State.offers, State.responds, isPost_of_role hw hpost, hrun, h]
    have hupNow : s.upShareNow w = (up, shortUp) := hup.symm
    have hdownNow : s.downShareNow w = (down, shortDown) := hdown.symm
    have hdivided : s.divided w = lowerResponse { s.reserve with
        upShare := if s.share.shedHold then 0 else up, downShare := down, shortUp := shortUp, shortDown := shortDown } := by
      rw [State.divided, hupNow, hdownNow]
    rw [hunit, if_pos hdivides, hdivided] at hreserve
    rw [hcause, hdivided] at hservice
    refine ⟨t, hexec, ?_, ?_, ?_, hframe⟩
    · rw [hreserve]
      rfl
    · rw [hreserve]
      rfl
    · rw [hservice]
      simp [hdivides, newShortfall, lowerResponse]

end Sys2Proof.Machine

/-! PROOFS. What the depot link receives: the checks of a reception, the ANNOUNCE that is stored, the clash, the SHED
that is taken, and the ends of entries and of shed-hold (Chapters 4, 5 and 6). -/

namespace Sys2Proof.Machine

/-! ## The checks of 4.5 (R77) -/

theorem announceOf_announceBytes (f : WireAnnounce) : announceOf (announceBytes f) = some f := by
  simp only [announceBytes, bytesOfWord, List.cons_append, List.nil_append, announceOf, wordOfBytes_bytes]

theorem shedOf_shedBytes (f : WireShed) : shedOf (f.station :: bytesOfWord f.fraction) = some f := by
  simp only [bytesOfWord, shedOf, wordOfBytes_bytes]

theorem announceOf_eq_none {payload : List Byte} (h : payload.length ≠ 21) : announceOf payload = none := by
  unfold announceOf
  split
  · simp at h
  · rfl

theorem shedOf_eq_none {payload : List Byte} (h : payload.length ≠ 3) : shedOf payload = none := by
  unfold shedOf
  split
  · simp at h
  · rfl

/-- An ANNOUNCE as written is judged by its fields. -/
theorem receptionOf_announceFrame (f : WireAnnounce) : receptionOf (announceFrame f) = judgeAnnounce f := by
  simp [receptionOf, announceFrame, unsealFrame_sealFrame, announceOf_announceBytes]

/-- A SHED as written is judged by its fields. -/
theorem receptionOf_shedFrame (f : WireShed) : receptionOf (shedFrame f) = judgeShed f := by
  simp [receptionOf, shedFrame, unsealFrame_sealFrame, shedOf_shedBytes]

theorem receptionOf_damaged {characters : List Byte}
    (h : characters.length < 3 ∨ characters.drop (characters.length - 2)
      ≠ bytesOfWord (crc16 (characters.take (characters.length - 2)))) : receptionOf characters = .crcError := by
  rw [receptionOf, unsealFrame_eq_none h]

/-- A kind other than those of ANNOUNCE and SHED, or a payload of another length (R77). -/
theorem receptionOf_untaken {kind : Byte} {payload : List Byte} (hannounce : kind ≠ 1 ∨ payload.length ≠ 21)
    (hshed : kind ≠ 2 ∨ payload.length ≠ 3) : receptionOf (sealFrame (kind :: payload)) = .malformed := by
  simp only [receptionOf, unsealFrame_sealFrame _ (List.cons_ne_nil _ _)]
  split
  next h1 => rw [announceOf_eq_none (hannounce.resolve_left (not_not.mpr h1))]; rfl
  split
  next h2 => rw [shedOf_eq_none (hshed.resolve_left (not_not.mpr h2))]; rfl
  rfl

theorem judgeAnnounce_malformed {f : WireAnnounce}
    (h : f.station = 0 ∨ 32 < f.station.toNat ∨ (f.role ≠ 1 ∧ f.role ≠ 2)) : judgeAnnounce f = .malformed := by
  refine if_neg ?_
  rw [← or_assoc, ← stationInRange_eq_false_iff, ← Role.ofByte_eq_none_iff] at h
  rcases h with h | h <;> simp [h]

theorem judgeAnnounce_valid {f : WireAnnounce} (hstation : 1 ≤ f.station.toNat ∧ f.station.toNat ≤ 32)
    (hrole : f.role = 1 ∨ f.role = 2) : judgeAnnounce f = .announce f := by
  refine if_pos ?_
  rw [(stationInRange_iff _).mpr hstation]
  rcases hrole with h | h <;> rw [h] <;> rfl

theorem judgeShed_malformed {f : WireShed}
    (h : f.station = 0 ∨ 32 < f.station.toNat ∨ f.fraction = 0 ∨ 1024 < f.fraction.toNat) :
    judgeShed f = .malformed := by
  refine if_neg ?_
  rw [← or_assoc, ← stationInRange_eq_false_iff, ← BitVec.toNat_inj] at h
  simp only [BitVec.ofNat_eq_ofNat, BitVec.toNat_ofNat] at h
  rcases h with h | h
  · simp [h]
  · simp only [Bool.and_eq_true, decide_eq_true_eq]
    omega

theorem judgeShed_valid {f : WireShed} (hstation : 1 ≤ f.station.toNat ∧ f.station.toNat ≤ 32)
    (hfraction : 1 ≤ f.fraction.toNat ∧ f.fraction.toNat ≤ 1024) : judgeShed f = .shed f := by
  refine if_pos ?_
  rw [(stationInRange_iff _).mpr hstation]
  simpa using hfraction

/-! ## The end of a reception (R66, R77) -/

/-- The end of a reception keeps the station state, the counters, the blocks' values and what no timer counts. -/
theorem receptionEnds_kept (fresh : Bool) (n : Nat) (s : State) :
    (receptionEnds fresh n s).link.station = s.link.station
      ∧ (receptionEnds fresh n s).link.transmitting = s.link.transmitting
      ∧ (receptionEnds fresh n s).link.goodFrames = s.link.goodFrames
      ∧ (receptionEnds fresh n s).link.crcErrors = s.link.crcErrors
      ∧ (receptionEnds fresh n s).link.malformed = s.link.malformed
      ∧ (receptionEnds fresh n s).service = s.service ∧ (receptionEnds fresh n s).store = s.store := by
  rw [receptionEnds_link, Link.afterReception]
  refine ⟨?_, ?_, ?_, ?_, ?_, by simp, by simp⟩
  all_goals split; · rfl
  all_goals split <;> rfl

/-- The line as a reception ends, by the receiver (R66, R77, assumption 27). -/
theorem receptionEnds_eq (fresh : Bool) (n : Nat) (s : State) :
    receptionEnds fresh n s = (s.elapse (s.link.receptionWait fresh n)).setLink
      (if s.link.receiver = .ending then { s.link with receiver := .deaf 0 }
      else if s.link.transmitting = none then
        { (s.elapse (s.link.receptionWait fresh n)).link with idleTime := 40, receiver := .hearing }
      else s.link) := by
  have hnoWait := (Link.receptionWait_effect fresh n s.link).2
  by_cases hending : s.link.receiver = .ending
  · rw [receptionEnds, hnoWait (.inr (.inl hending)), elapse_zero, if_pos hending, Link.afterReception, if_pos hending]
  · rw [if_neg hending]
    by_cases hfree : s.link.transmitting = none
    · have hstill : (s.elapse (s.link.receptionWait fresh n)).link.receiver ≠ .ending := by
        rw [elapse_link]
        show s.link.receiverAfter _ ≠ _
        unfold Link.receiverAfter
        split
        · simp
        next h => exact absurd h hending
        · split <;> simp
      rw [if_pos hfree, receptionEnds, Link.afterReception, if_neg hstill, if_pos (by rw [elapse_link]; exact hfree)]
      rfl
    · rw [if_neg hfree, receptionEnds, hnoWait (.inr (.inr hfree)), elapse_zero, Link.afterReception, if_neg hending,
        if_neg hfree]

/-- A reception that the receiver delivers is decided on the line as it ends (R77). -/
theorem receive_heard {fresh : Bool} {n : Nat} {r : Reception} {s u : State} (h : s.link.hears fresh = true)
    (hu : receptionEnds fresh n s = u) : receive fresh n r s = decideReception r u := by
  rw [(receive_effect fresh n r s).1 h, hu]

@[simp] theorem decideReception_crcError (s : State) :
    decideReception .crcError s = s.setLink { s.link with crcErrors := bump 65535 s.link.crcErrors } := rfl

@[simp] theorem decideReception_malformed (s : State) :
    decideReception .malformed s = s.setLink { s.link with malformed := bump 65535 s.link.malformed } := rfl

@[simp] theorem decideReception_announce (f : WireAnnounce) (s : State) :
    decideReception (.announce f) s = routeAnnounce f (countGood s) := rfl

@[simp] theorem decideReception_shed (f : WireShed) (s : State) :
    decideReception (.shed f) s = routeShed f (countGood s) := rfl

/-- The characters decide a reception that meets an empty receive buffer. -/
theorem exec_receptionEnd {s : State} (fresh : Bool) (characters : List Byte) (h : s.link.receiveBuffer = []) :
    exec (.receptionEnd ⟨fresh, characters⟩) s =
      .next (receive fresh characters.length (receptionOf characters) s) := by
  have hsame : s.setLink { s.link with receiveBuffer := [] } = s := by
    rw [← h]; rfl
  show Host.Outcome.next (receive fresh (s.link.receiveBuffer ++ characters).length
    (receptionOf (s.link.receiveBuffer ++ characters)) (s.setLink { s.link with receiveBuffer := [] })) = _
  rw [hsame, h, List.nil_append]

/-- Settles O35: the time that passes, then the checks in their order. -/
theorem receptionIsChecked : Obligations.ReceptionIsChecked := by
  intro s u fresh characters wait hbuffer hwait hu
  have hwaits : s.link.receptionWait fresh characters.length = wait := by
    subst hwait
    unfold Link.receptionWait
    cases s.link.receiver with
    | hearing => rfl
    | ending => rfl
    | deaf quiet =>
      by_cases hfree : s.link.transmitting = none
      · cases fresh with
        | false => simp [hfree, lineIdle]
        | true =>
          by_cases hnone : characters = []
          · simp [hfree, hnone, receptionTime, lineIdle]
          · simp [hfree, hnone, receptionTime, lineIdle]; omega
      · simp [hfree]
  have hends : receptionEnds fresh characters.length s = u := by rw [receptionEnds_eq, hwaits, hu]
  have hkept := receptionEnds_kept fresh characters.length s
  rw [hends] at hkept
  obtain ⟨-, -, -, hcrc, hmal, -, -⟩ := hkept
  have hexec := exec_receptionEnd fresh characters hbuffer
  refine ⟨hends, Link.hears_iff fresh s.link, fun hdeaf => ?_, fun hheard => ⟨fun hdamaged => ?_, fun hmalformed => ?_⟩,
    fun f hf => ?_, fun f hf => ?_⟩
  · rw [hexec, (receive_effect ..).2 hdeaf, hends]
  · rw [receive_heard hheard hends, receptionOf_damaged hdamaged, decideReception_crcError] at hexec
    refine ⟨_, hexec, ?_, unchangedExcept_of_same⟩
    simp [hcrc, bump]
  · have hjudged : receptionOf characters = .malformed := by
      rcases hmalformed with ⟨kind, payload, hframe, hannounce, hshed⟩ | ⟨f, hframe, hf⟩ | ⟨f, hframe, hf⟩
      · rw [hframe]; exact receptionOf_untaken hannounce hshed
      · rw [hframe, receptionOf_announceFrame, judgeAnnounce_malformed hf]
      · rw [hframe, receptionOf_shedFrame, judgeShed_malformed hf]
    rw [receive_heard hheard hends, hjudged, decideReception_malformed] at hexec
    refine ⟨_, hexec, ?_, unchangedExcept_of_same⟩
    simp [hmal, bump]
  · rw [hexec, hf, receptionOf_announceFrame]
    rfl
  · rw [hexec, hf, receptionOf_shedFrame]
    rfl

/-! ## The ANNOUNCE that is taken (R78, R86, R88) -/

theorem exec_announceReceived {fresh : Bool} {f : WireAnnounce} {s u : State} (h : s.link.hears fresh = true)
    (hu : receptionEnds fresh (announceFrame f).length s = u) :
    exec (.announceReceived ⟨fresh, f⟩) s = .next (decideReception (judgeAnnounce f) u) :=
  congrArg Host.Outcome.next (receive_heard h hu)

theorem exec_shedReceived {fresh : Bool} {f : WireShed} {s u : State} (h : s.link.hears fresh = true)
    (hu : receptionEnds fresh (shedFrame f).length s = u) :
    exec (.shedReceived ⟨fresh, f⟩) s = .next (decideReception (judgeShed f) u) :=
  congrArg Host.Outcome.next (receive_heard h hu)

/-- The own number of a station with a working copy (R78). -/
theorem ownNumber_iff {s : State} (n : Byte) :
    s.ownNumber n = true ↔ ∃ w, s.store.working = some w ∧ w.station = n.toNat := by
  cases hw : s.store.working <;> simp [State.ownNumber, hw]

theorem ownNumber_false {s : State} {n : Byte} (h : s.stationNumber ≠ n.toNat) : s.ownNumber n = false := by
  rw [Bool.eq_false_iff, Ne, ownNumber_iff]
  rintro ⟨w, hw, hn⟩
  exact h (by simp [State.stationNumber, hw, hn])

theorem stationNumber_of_working {s : State} {w : WorkingCopy} (hw : s.store.working = some w) :
    s.stationNumber = w.station := by simp [State.stationNumber, hw]

/-- An ANNOUNCE from another station is stored in LISTENING, RUNNING and CLASH (R78, R86). -/
theorem routeAnnounce_stores {f : WireAnnounce} {s : State} (h : s.ownNumber f.station = false)
    (hactive : s.link.station = .listening ∨ s.link.station = .running ∨ s.link.station = .clash) :
    routeAnnounce f s = storeAnnounce f s := by
  rcases hactive with hs | hs | hs <;> simp [routeAnnounce, hs, h]

theorem routeAnnounce_discards {f : WireAnnounce} {s : State}
    (h : s.link.station = .loading ∨ s.link.station = .unconfigured) : routeAnnounce f s = s := by
  rcases h with hs | hs <;> simp [routeAnnounce, hs]

theorem ofAnnounce_eq {f : WireAnnounce} (h : f.role = 1 ∨ f.role = 2) :
    Peer.ofAnnounce f =
      { station := f.station.toNat, role := if f.role = 1 then .post else .meter
        flags := f.flags &&& 0x1F, readiness := f.readiness.toNat, urgency := f.urgency.toNat
        claim := f.claim.toNat, held := min f.held.toNat f.claim.toNat, draw := f.draw.toInt
        offerUp := f.offerUp.toNat, offerDown := f.offerDown.toNat
        dischargeOffer := f.dischargeOffer.toNat, lendable := f.lendable.toNat
        feederLoad := f.feederLoad.toNat, age := 0 } := by
  have hrole : (Role.ofByte f.role).getD .post = if f.role = 1 then .post else .meter := by
    rcases h with h | h <;> rw [h] <;> rfl
  rw [Peer.ofAnnounce, hrole]

/-- Settles O36: malformed, discarded or stored. -/
theorem announceIsStored : Obligations.AnnounceIsStored := by
  intro s u fresh f hu hheard
  have hexec := exec_announceReceived hheard hu.symm
  obtain ⟨hstation, -, hgood, -, hmal, -, hstore⟩ := hu ▸ receptionEnds_kept fresh (announceFrame f).length s
  refine ⟨fun hbad => ?_, fun hlow hhigh hrole => ?_⟩
  · rw [judgeAnnounce_malformed hbad, decideReception_malformed] at hexec
    refine ⟨_, hexec, ?_, unchangedExcept_of_same⟩
    simp [hmal, bump]
  rw [judgeAnnounce_valid ⟨hlow, hhigh⟩ hrole, decideReception_announce] at hexec
  refine ⟨fun hidle => ?_, fun hactive hother hsorted => ?_⟩
  · rw [routeAnnounce_discards (by simpa [countGood, hstation] using hidle)] at hexec
    refine ⟨_, hexec, ?_, unchangedExcept_of_same⟩
    simp [countGood, hgood, bump]
  · have hforeign : (countGood u).ownNumber f.station = false :=
      ownNumber_false (by simpa [countGood, State.stationNumber, hstore] using hother)
    rw [routeAnnounce_stores hforeign (by simpa [countGood, hstation] using hactive)] at hexec
    obtain ⟨hascending, hmembers⟩ := putPeer_effect (Peer.ofAnnounce f) u.peers.entries hsorted
    refine ⟨_, hexec, ?_, rfl, hascending, fun p => ?_, unchangedExcept_of_same⟩
    · simp [storeAnnounce, countGood, hgood, bump]
    · rw [← ofAnnounce_eq hrole]
      exact hmembers p

/-! ## The clash (R79) -/

/-- A clash with a good frame counted, block by block (R79). -/
theorem enterClash_counted {u : State} {n : Nat} (hgood : bump 65535 u.link.goodFrames = n) :
    (enterClash (countGood u)).link = { u.link with
        station := .clash, listenTimer := none, announceTimer := none, announceHand := none, shedHand := none
        shedBehind := none, transmitting := none, goodFrames := n
        idleTime := if u.link.transmitting = none then u.link.idleTime else 0
        receiver := if u.link.transmitting = none then u.link.receiver else .deaf 0 } := by
  rw [(enterClash_effect _).1, countGood, hgood, Link.clash, State.setLink_link]
  unfold Link.stopDriving
  by_cases h : u.link.transmitting = none <;> simp [h]

theorem routeAnnounce_clashes {f : WireAnnounce} {s : State} (h : s.ownNumber f.station = true)
    (hs : s.link.station = .listening ∨ s.link.station = .running) : routeAnnounce f s = enterClash s := by
  rcases hs with hs | hs <;> simp [routeAnnounce, hs, h]

theorem routeShed_clashes {f : WireShed} {s : State} (h : s.ownNumber f.station = true)
    (hs : s.link.station = .listening ∨ s.link.station = .running) : routeShed f s = enterClash s := by
  rcases hs with hs | hs <;> simp [routeShed, hs, h]

theorem routeAnnounce_inClash {f : WireAnnounce} {s : State} (h : s.ownNumber f.station = true)
    (hs : s.link.station = .clash) : routeAnnounce f s = s := by simp [routeAnnounce, hs, h]

theorem routeShed_discards {f : WireShed} {s : State}
    (h : s.link.station = .loading ∨ s.link.station = .unconfigured ∨ s.link.station = .clash) : routeShed f s = s := by
  rcases h with hs | hs | hs <;> simp [routeShed, hs]

theorem countGood_ownNumber (s : State) (n : Byte) : (countGood s).ownNumber n = s.ownNumber n := rfl

/-- Settles O37: either kind of frame with the own number leads to the same clash. -/
theorem ownNumberIsAClash : Obligations.OwnNumberIsAClash := by
  intro s u w c fresh hw hlow hhigh hheard hframe
  have hends : ∃ m, receptionEnds fresh m s = u := by
    rcases hframe with ⟨f, -, -, -, hu⟩ | ⟨f, -, -, -, -, hu⟩ <;> exact ⟨_, hu.symm⟩
  obtain ⟨m, hends⟩ := hends
  obtain ⟨hstation, htx, hgood, -, -, hservice, hstore⟩ := hends ▸ receptionEnds_kept fresh m s
  have hown : ∀ n : Byte, n.toNat = w.station → (countGood u).ownNumber n = true := fun n hn =>
    (ownNumber_iff n).mpr ⟨w, by simpa [hstore] using hw, hn.symm⟩
  have hcounted : (countGood u).link.station = s.link.station := hstation
  have hclash : (s.link.station = .listening ∨ s.link.station = .running) →
      exec c s = .next (enterClash (countGood u)) := by
    rw [← hcounted]
    intro hs
    rcases hframe with ⟨f, rfl, hnumber, hrole, hu⟩ | ⟨f, rfl, hnumber, hone, htop, hu⟩
    · rw [exec_announceReceived hheard hu.symm, judgeAnnounce_valid (hnumber ▸ ⟨hlow, hhigh⟩) hrole,
        decideReception_announce, routeAnnounce_clashes (hown _ hnumber) hs]
    · rw [exec_shedReceived hheard hu.symm, judgeShed_valid (hnumber ▸ ⟨hlow, hhigh⟩) ⟨hone, htop⟩,
        decideReception_shed, routeShed_clashes (hown _ hnumber) hs]
  have hstays : s.link.station = .clash → exec c s = .next (countGood u) := by
    rw [← hcounted]
    intro hs
    rcases hframe with ⟨f, rfl, hnumber, hrole, hu⟩ | ⟨f, rfl, hnumber, hone, htop, hu⟩
    · rw [exec_announceReceived hheard hu.symm, judgeAnnounce_valid (hnumber ▸ ⟨hlow, hhigh⟩) hrole,
        decideReception_announce, routeAnnounce_inClash (hown _ hnumber) hs]
    · rw [exec_shedReceived hheard hu.symm, judgeShed_valid (hnumber ▸ ⟨hlow, hhigh⟩) ⟨hone, htop⟩,
        decideReception_shed, routeShed_discards (.inr (.inr hs))]
  have hexists : ∃ t, exec c s = .next t := by
    rcases hframe with ⟨f, rfl, -, -, -⟩ | ⟨f, rfl, -, -, -, -⟩ <;> exact ⟨_, rfl⟩
  obtain ⟨t, hexec⟩ := hexists
  have hcount : bump 65535 u.link.goodFrames = bump 65535 s.link.goodFrames := by rw [hgood]
  refine ⟨t, bump 65535 s.link.goodFrames, hexec, rfl, fun hs => ?_, fun hs => ?_⟩
  · obtain rfl : enterClash (countGood u) = t := by simpa using (hclash hs).symm.trans hexec
    refine ⟨?_, rfl, rfl, rfl, ?_, unchangedExcept_of_same⟩
    · rw [enterClash_counted hcount, htx]
    · rw [(enterClash_effect _).2.2.2.2, ← hservice]
      rfl
  · obtain rfl : countGood u = t := by simpa using (hstays hs).symm.trans hexec
    exact ⟨by rw [← hcount]; rfl, unchangedExcept_of_same⟩

end Sys2Proof.Machine

/-! PROOFS. The SHED that a post takes, and the ends of peer entries and of shed-hold (5.1, 5.4, 6.9, 6.11). -/

namespace Sys2Proof.Machine

/-! ## The SHED that is taken (R122, R124) -/

/-- What the time up to the end of a reception leaves of the blocks a SHED cuts. -/
theorem receptionEnds_values (fresh : Bool) (n : Nat) (s : State) :
    (receptionEnds fresh n s).share = { s.share with shedTimer := (receptionEnds fresh n s).share.shedTimer }
      ∧ (receptionEnds fresh n s).composer.ramped = s.composer.ramped
      ∧ (receptionEnds fresh n s).reserve.response = s.reserve.response
      ∧ (receptionEnds fresh n s).reserve.downShare = s.reserve.downShare := ⟨rfl, rfl, rfl, rfl⟩

/-- A SHED from another station is handed to the share engine (R78). -/
theorem routeShed_taken {f : WireShed} {s : State} {w : WorkingCopy} (hw : s.store.working = some w)
    (hother : f.station.toNat ≠ w.station) (hs : s.link.station = .listening ∨ s.link.station = .running) :
    routeShed f s = takeShed w f.fraction.toNat s := by
  have hforeign : s.ownNumber f.station = false :=
    ownNumber_false (by rw [stationNumber_of_working hw]; exact hother.symm)
  rcases hs with hs | hs <;> simp [routeShed, hs, hforeign, handShed, hw]

/-- What a SHED does to a meter: the cause alone (R122). -/
theorem takeShed_meter {w : WorkingCopy} (h : w.role = .meter) (fraction : Nat) (s : State) :
    takeShed w fraction s = raise .shedHeard s := if_pos h

theorem takeShed_running {w : WorkingCopy} {s : State} (h : w.role = .post) (hs : s.link.station = .running)
    (fraction : Nat) : takeShed w fraction s = raise .shedHeard (shedRunning w fraction s) := by
  simp [takeShed, h, hs]

theorem takeShed_listening {w : WorkingCopy} {s : State} (h : w.role = .post) (hs : s.link.station = .listening)
    (fraction : Nat) : takeShed w fraction s = raise .shedHeard (shedListening w s) := by
  simp [takeShed, h, hs]

/-- The share engine of a post after a cut (R122). -/
theorem shedShare_eq (w : WorkingCopy) (fraction : Nat) (sh : Share) :
    shedShare w fraction sh = { sh with
      allowance := shedCut sh.allowance fraction, held := min sh.held (shedCut sh.allowance fraction)
      tenure := sh.tenure && decide (min sh.held (shedCut sh.allowance fraction) ≠ 0)
      tenureLeft := if min sh.held (shedCut sh.allowance fraction) = 0 then 0 else sh.tenureLeft
      shedCap := shedCut sh.allowance fraction, shedHold := true
      shedTimer := some (w.shedhold * 1000 * 1000) } := by
  rw [shedShare, startShedHold, setAllowance_eq, millis_eq]

/-- The response with the up share given up (R145). -/
theorem reserveShed_eq (r : Reserve) :
    reserveShed r = { r with
      upShare := 0, response := if 0 < r.response then 0 else max (-(r.downShare : Int)) r.response } := by
  have hclamped : clampInt (-(r.downShare : Int)) 0 r.response =
      if 0 < r.response then 0 else max (-(r.downShare : Int)) r.response := by
    unfold clampInt
    split <;> omega
  simp only [reserveShed, lowerResponse]
  exact congrArg (fun x => { r with upShare := 0, response := x }) hclamped

/-- A SHED raises SHED_HEARD in either role (R122, R124). -/
theorem takeShed_service (w : WorkingCopy) (fraction : Nat) (s : State) :
    (takeShed w fraction s).service = { s.service with pendingCauses := s.service.pendingCauses ||| 128#12 } := by
  unfold takeShed
  split
  · simp [withCause, Cause.bit, BitVec.twoPow]
  split <;> simp [shedRunning, shedListening, withCause, Cause.bit, BitVec.twoPow]

/-- Settles O38: malformed, discarded, or taken by role and station state. -/
theorem shedCutsTheAllowance : Obligations.ShedCutsTheAllowance := by
  intro s u fresh f n hu hheard hn
  have hexec := exec_shedReceived hheard hu.symm
  obtain ⟨hstation, -, hgood, -, hmal, hservice, hstore⟩ := hu ▸ receptionEnds_kept fresh (shedFrame f).length s
  obtain ⟨hshare, hramped, hresponse, hdown⟩ := hu ▸ receptionEnds_values fresh (shedFrame f).length s
  have hcount : bump 65535 u.link.goodFrames = n := by rw [hgood, hn]; rfl
  have hlink : (countGood u).link = { u.link with goodFrames := n } := by rw [← hcount]; rfl
  refine ⟨fun hbad => ?_, fun hlow hhigh hone htop => ?_⟩
  · rw [judgeShed_malformed hbad, decideReception_malformed] at hexec
    refine ⟨_, hexec, ?_, unchangedExcept_of_same⟩
    simp [hmal, bump]
  rw [judgeShed_valid ⟨hlow, hhigh⟩ ⟨hone, htop⟩, decideReception_shed] at hexec
  refine ⟨fun hidle => ?_, fun w cut hw hother hs hcut => ?_⟩
  · rw [routeShed_discards (by simpa [countGood, hstation] using hidle)] at hexec
    exact ⟨_, hexec, hlink, unchangedExcept_of_same⟩
  · rw [routeShed_taken (w := w) (by simpa [countGood, hstore] using hw) hother
      (by simpa [countGood, hstation] using hs)] at hexec
    have hallowance : u.share.allowance = s.share.allowance := by rw [hshare]
    have hheld : u.share.held = s.share.held := by rw [hshare]
    have htenure : u.share.tenure = s.share.tenure := by rw [hshare]
    have hleft : u.share.tenureLeft = s.share.tenureLeft := by rw [hshare]
    have hdischarge : u.share.discharge = s.share.discharge := by rw [hshare]
    have hcutNow : shedCut (countGood u).share.allowance f.fraction.toNat = cut := by
      rw [hcut, ← hallowance]; rfl
    refine ⟨_, hexec, ?_, ?_, fun hpost hrun => ?_, fun hpost hlisten => ?_, fun hpost => ?_, fun hmeter => ?_,
      unchangedExcept_of_same⟩
    · rw [(takeShed_frame ..).2.2.2.1, hlink]
    · rw [takeShed_service, ← hservice]; rfl
    · rw [takeShed_running hpost (s := countGood u) (hstation.trans hrun)]
      have htaken : (raise .shedHeard (shedRunning w f.fraction.toNat (countGood u))).share =
          shedShare w f.fraction.toNat (countGood u).share := rfl
      rw [htaken, shedShare_eq, hcutNow, show (countGood u).share = u.share from rfl, hheld]
      refine ⟨rfl, rfl, rfl, rfl, rfl, hdischarge, fun hpos => ?_, fun hzero => ?_, rfl, ?_⟩
      · have hne : min s.share.held cut ≠ 0 := by omega
        simp [hne, htenure, hleft]
      · simp [hzero]
      · rw [← hcutNow, ← hramped]
        rfl
    · rw [takeShed_listening hpost (s := countGood u) (hstation.trans hlisten)]
      exact ⟨rfl, rfl⟩
    · rw [← hresponse, ← hdown, ← reserveShed_eq]
      rcases hs with hs | hs
      · rw [takeShed_listening hpost (s := countGood u) (hstation.trans hs)]; rfl
      · rw [takeShed_running hpost (s := countGood u) (hstation.trans hs)]; rfl
    · rw [takeShed_meter hmeter]
      exact ⟨rfl, rfl, rfl⟩

/-! ## The ends of entries and of shed-hold (R87, R88, R123) -/

/-- An entry just stored is the one found for its station. -/
theorem find_putPeer (p : Peer) (l : List Peer) : (putPeer p l).find? (fun q => q.station == p.station) = some p := by
  induction l with
  | nil => simp [putPeer]
  | cons q l ih =>
    rw [putPeer]
    split
    next hlt => rw [List.find?_cons_of_neg (by simp; omega), ih]
    split <;> simp

theorem silentTime_of_working {s : State} {w : WorkingCopy} (hw : s.store.working = some w) :
    s.silentTime = w.ksil * (w.tann * 10) * 1000 := by
  simp [State.silentTime, hw, WorkingCopy.silentTime, WorkingCopy.announceTime]

theorem active_of_cases {k : Station} (h : k = .listening ∨ k = .running ∨ k = .clash) : k.active = true := by
  rcases h with h | h | h <;> rw [h] <;> rfl

theorem exec_peerEntryExpiry (n : Nat) (s : State) : exec (.peerEntryExpiry n) s = .next (entryExpired n s) := rfl

/-- The removal of an entry waits for its age (R87). -/
theorem entryExpired_of_found {s : State} {n : Nat} {p : Peer} (hs : s.link.station.active = true)
    (hfind : s.peers.entries.find? (fun q => q.station == n) = some p) :
    entryExpired n s = if s.silentTime ≤ p.age then removeEntry n s else s := by
  simp [entryExpired, hs, State.entryDue, hfind]

/-- Settles O39: the removal and ALONE by `enterAlone_effect`; an entry just stored has age 0. -/
theorem removalAndShedHoldEndAtTheirTimes : Obligations.RemovalAndShedHoldEndAtTheirTimes := by
  intro s
  refine ⟨fun w p rest island hisland hw hs hfind hrest => ?_, fun w fresh f hw hlasts hs hheard hlow hhigh hother hrole => ?_,
    fun hnot => ?_, fun hdue => ?_⟩
  · have hexpired := entryExpired_of_found (active_of_cases hs) hfind
    rw [silentTime_of_working hw] at hexpired
    refine ⟨fun hyoung => ?_, fun hold => ?_⟩
    · rw [exec_peerEntryExpiry, hexpired, if_neg (by omega)]
    · rw [if_pos hold] at hexpired
      have hexec := (exec_peerEntryExpiry p.station s).trans (congrArg Host.Outcome.next hexpired)
      have hdropped : dropPeer p.station s.peers.entries = rest := by rw [hrest]; rfl
      rw [removeEntry, hdropped] at hexec
      by_cases halone : rest = [] ∧ s.link.station = .running
      · obtain ⟨hempty, hrun⟩ := halone
        rw [decideAlone_empty (s := s.setPeers { s.peers with entries := rest }) hrun hempty] at hexec
        obtain ⟨hpeers, hservice, hpost, hmeter⟩ :=
          enterAlone_effect (s := s.setPeers { s.peers with entries := rest }) hw
        refine ⟨_, hexec, by rw [hpeers]; rfl, fun h => absurd h (by simp [hempty, hrun]), fun _ _ =>
          ⟨by rw [hpeers], hservice, fun hrole => ?_, fun hrole => hmeter hrole, unchangedExcept_of_same⟩⟩
        obtain ⟨hcut, hlowered⟩ := hpost hrole
        rw [hcut, hlowered, hisland]
        exact ⟨rfl, rfl⟩
      · have hstays : decideAlone (s.setPeers { s.peers with entries := rest }) =
            s.setPeers { s.peers with entries := rest } := if_neg fun h => halone ⟨h.2, h.1⟩
        rw [hstays] at hexec
        exact ⟨_, hexec, rfl, fun _ => ⟨rfl, unchangedExcept_of_same⟩, fun h k => absurd ⟨h, k⟩ halone⟩
  · obtain ⟨hstation, -, -, -, -, -, hstore⟩ := receptionEnds_kept fresh (announceFrame f).length s
    have hexec := exec_announceReceived hheard (rfl : receptionEnds fresh (announceFrame f).length s = _)
    generalize receptionEnds fresh (announceFrame f).length s = u at *
    have hwu : (countGood u).store.working = some w := by rw [← hw, ← hstore]; rfl
    rw [judgeAnnounce_valid ⟨hlow, hhigh⟩ hrole, decideReception_announce,
      routeAnnounce_stores (ownNumber_false (by rw [stationNumber_of_working hwu]; exact hother.symm))
        (by simpa [countGood, hstation] using hs)] at hexec
    have hfind : (storeAnnounce f (countGood u)).peers.entries.find? (fun q => q.station == f.station.toNat) =
        some (Peer.ofAnnounce f) := find_putPeer (Peer.ofAnnounce f) _
    have hactive : (storeAnnounce f (countGood u)).link.station.active = true := by
      simpa [storeAnnounce, countGood, hstation] using active_of_cases hs
    refine ⟨_, hexec, ?_, ?_⟩
    · rw [exec_peerEntryExpiry, entryExpired_of_found hactive hfind,
        silentTime_of_working (s := storeAnnounce f (countGood u)) hwu, if_neg]
      show ¬ _ ≤ 0
      omega
    · rw [hfind]
      rfl
  · show Host.Outcome.next (shedHoldExpired s) = _
    rw [shedHoldExpired, if_neg (by simpa using hnot)]
  · have hexec : exec .shedHoldExpiry s = .next (endShedHold s) := by
      show Host.Outcome.next (shedHoldExpired s) = _
      rw [shedHoldExpired, if_pos (by simpa using hdue)]
    exact ⟨_, hexec, rfl, unchangedExcept_of_same⟩

end Sys2Proof.Machine

/-! PROOFS. The mains frequency: what an edge does to the measurement, how a measurement is judged, and the reserve
offers (Chapter 7). -/

namespace Sys2Proof.Machine

/-! ## Edges (R132, R133) -/

/-- The state as an edge comes: the time until then has passed (R2, assumption 15). -/
theorem edgeTime_kept (time : Nat) (s : State) :
    (s.edgeTime time).clock = max s.clock time ∧ (s.edgeTime time).store = s.store
      ∧ (s.edgeTime time).link.station = s.link.station
      ∧ (s.edgeTime time).reserve = { s.reserve with edgeTimeout := (s.edgeTime time).reserve.edgeTimeout }
      ∧ (s.edgeTime time).service = s.service := by
  refine ⟨?_, rfl, rfl, rfl, rfl⟩
  show s.clock + (time - s.clock) = _
  omega

theorem exec_mainsEdge (time : Nat) (s : State) : exec (.mainsEdge time) s = .next (mainsEdgeTaken (s.edgeTime time)) := rfl

theorem mainsEdgeTaken_idle {s : State} (h : s.link.station = .loading ∨ s.link.station = .unconfigured) :
    mainsEdgeTaken s = s := by
  have hinactive : s.link.station.active = false := by rcases h with h | h <;> rw [h] <;> rfl
  unfold mainsEdgeTaken
  split
  · simp [hinactive]
  · rfl

section
variable {s : State} {w : WorkingCopy}

theorem mainsEdgeTaken_first (hw : s.store.working = some w) (hs : s.link.station.active = true)
    (hm : s.reserve.measurement = none) : mainsEdgeTaken s = startMeasurement s.clock s := by
  simp [mainsEdgeTaken, hw, hs, hm]

theorem mainsEdgeTaken_next {m : Measurement} (hw : s.store.working = some w) (hs : s.link.station.active = true)
    (hm : s.reserve.measurement = some m) : mainsEdgeTaken s = countEdge w s.clock m s := by
  simp [mainsEdgeTaken, hw, hs, hm]

/-- An edge that completes the measurement: the next one starts, and the frequency is judged (R132, R134). -/
theorem exec_mainsEdge_completes {m : Measurement} {time edge : Nat} (hw : s.store.working = some w)
    (hs : s.link.station.active = true) (hm : s.reserve.measurement = some m) (hedges : m.edges + 1 = cycleCount w)
    (hedge : edge = max s.clock time) :
    exec (.mainsEdge time) s = .next (judgeMeasurement w (frequencyOf (cycleCount w) (edge - m.start))
      ((s.elapse (time - s.clock)).setReserve { s.reserve with
        measurement := some { start := edge, edges := 0, periodSum := 0 }, edgeTimeout := some 50000 })) := by
  obtain ⟨hclock, hstore, hstation, hreserve, -⟩ := edgeTime_kept time s
  have hcomplete : cycleCount w ≤ (m.edge edge).edges := by show _ ≤ m.edges + 1; omega
  rw [exec_mainsEdge, mainsEdgeTaken_next (w := w) (m := m) (by rw [hstore, hw]) (by rw [hstation, hs])
    (by rw [hreserve]; exact hm), hclock, ← hedge, countEdge, if_pos hcomplete]
  rfl

end

/-- What a judgement looks at: the frequency stored with its mark (R134). -/
theorem judgeMeasurement_plausible {w : WorkingCopy} {f : Nat} (s : State)
    (h : nominal w ≤ f + 5000 ∧ f ≤ nominal w + 5000) :
    judgeMeasurement w (some f) s = judgedPlausible w (deviationOf w f)
      (s.setReserve { s.reserve with lastFrequency := some f, plausible := true }) := by
  simp [judgeMeasurement, plausibleOf, h]

theorem judgeMeasurement_implausible {w : WorkingCopy} {f : Option Nat} (s : State) (h : plausibleOf w f = false) :
    judgeMeasurement w f s = judgedImplausible
      (s.setReserve { s.reserve with lastFrequency := f, plausible := false }) := by
  simp [judgeMeasurement, h]

/-- In DISABLED a measurement is stored with its mark alone (R134, R135). -/
theorem judgeMeasurement_disabled {w : WorkingCopy} {f : Option Nat} {s : State} (h : s.reserve.state = .disabled) :
    judgeMeasurement w f s = s.setReserve { s.reserve with lastFrequency := f, plausible := plausibleOf w f } := by
  cases hplausible : plausibleOf w f <;> simp [judgeMeasurement, judgedPlausible, judgedImplausible, hplausible, h]

theorem frequencyOf_pos {cycles sum : Nat} (h : 0 < sum) :
    frequencyOf cycles sum = some ((2 * cycles * 1000000000 + sum) / (2 * sum)) := if_neg (by omega)

/-- Settles O42: the first edge, a counted edge, and a completion in DISABLED. -/
theorem edgesGatherAMeasurement : Obligations.EdgesGatherAMeasurement := by
  intro s u time edge hu hedge
  obtain ⟨hclock, hstore, hstation, hreserve, -⟩ := edgeTime_kept time s
  have hsame : s.edgeTime time = u := hu.symm
  rw [hsame] at hclock hstore hstation hreserve
  rw [← hedge] at hclock
  refine ⟨hclock, fun hidle => ?_, fun w cycles hw hcycles hactive => ?_⟩
  · rw [exec_mainsEdge, hsame, mainsEdgeTaken_idle (hstation ▸ hidle)]
  have hwu : u.store.working = some w := by rw [hstore, hw]
  have hsu : u.link.station.active = true := by rw [hstation]; exact active_of_cases hactive
  obtain rfl : cycles = cycleCount w := hcycles
  have hexec := exec_mainsEdge time s
  rw [hsame] at hexec
  refine ⟨fun hnone => ?_, fun m hm hfew => ?_, fun m sum f hm hedges hdisabled hsum hpos hf => ?_⟩
  · rw [mainsEdgeTaken_first hwu hsu (by rw [hreserve]; exact hnone), hclock] at hexec
    refine ⟨_, hexec, ?_, unchangedExcept_of_same⟩
    simp only [startMeasurement, State.setReserve_reserve]
    rw [hreserve]
    rfl
  · have hmore : ¬ cycleCount w ≤ (m.edge edge).edges := by show ¬ _ ≤ m.edges + 1; omega
    rw [mainsEdgeTaken_next hwu hsu (by rw [hreserve]; exact hm), hclock, countEdge, if_neg hmore] at hexec
    refine ⟨_, hexec, ?_, unchangedExcept_of_same⟩
    simp only [State.setReserve_reserve]
    rw [hreserve]
    rfl
  · have hjudged := exec_mainsEdge_completes (time := time) hw (active_of_cases hactive) hm hedges hedge
    rw [← hsum, frequencyOf_pos hpos, ← hf, judgeMeasurement_disabled (by simpa using hdisabled)] at hjudged
    exact ⟨_, hjudged, rfl, hu ▸ unchangedExcept_of_same⟩

/-! ## Plausible measurements (R136, R139 to R141, R146) -/

/-- The active deviation of a history of three, in the manual's words (R140). -/
theorem activeOf_three (w : WorkingCopy) (a b c : Int) :
    (((w.db : Int) < a ∧ (w.db : Int) < b ∧ (w.db : Int) < c) → activeOf w [a, b, c] = min a (min b c))
      ∧ ((a < -(w.db : Int) ∧ b < -(w.db : Int) ∧ c < -(w.db : Int)) → activeOf w [a, b, c] = max a (max b c))
      ∧ (¬((w.db : Int) < a ∧ (w.db : Int) < b ∧ (w.db : Int) < c) →
          ¬(a < -(w.db : Int) ∧ b < -(w.db : Int) ∧ c < -(w.db : Int)) → activeOf w [a, b, c] = 0) := by
  refine ⟨fun h => if_pos h, fun h => ?_, fun h k => ?_⟩
  · exact (if_neg (by omega)).trans (if_pos h)
  · exact (if_neg h).trans (if_neg k)

theorem droopOf_cases (w : WorkingCopy) (active : Int) :
    (active.natAbs ≤ w.db → droopOf w active = 0)
      ∧ (w.db < active.natAbs → droopOf w active = min 1024 ((active.natAbs - w.db) * 1024 / (w.full - w.db))) :=
  ⟨fun h => if_pos h, fun h => if_neg (by omega)⟩

theorem responseOf_cases (active : Int) (droop up down : Nat) :
    (active < 0 → responseOf active droop up down = -((down * droop / 1024 : Nat) : Int))
      ∧ (0 < active → responseOf active droop up down = ((up * droop / 1024 : Nat) : Int))
      ∧ (active = 0 → responseOf active droop up down = 0) := by
  unfold responseOf
  refine ⟨fun h => if_pos h, fun h => ?_, fun h => ?_⟩
  · rw [if_neg (by omega), if_pos h]
  · rw [if_neg (by omega), if_neg (by omega)]

/-- The unit with a plausible measurement taken, before the response is worked out (R136, R139). -/
def Reserve.joined (history : List Int) (r : Reserve) : Reserve :=
  { r with
    implausibleCount := 0, history := history
    recoveryCount :=
      if r.state = .mainsLost then (if 2 ≤ r.recoveryCount then 3 else r.recoveryCount + 1) else r.recoveryCount }

/-- A plausible measurement by the reserve state: the response is worked out in MEASURING, and at the third in STARTING
and in the recovery (R136, R139). -/
theorem judgedPlausible_reserve {w : WorkingCopy} {d : Int} {s : State} (hlive : s.reserve.state ≠ .disabled)
    {full : Prop} (hfull : full ↔ s.reserve.state = .measuring
      ∨ (s.reserve.state = .starting ∧ 3 ≤ (joinThree d s.reserve.history).length)
      ∨ (s.reserve.state = .mainsLost ∧ 2 ≤ s.reserve.recoveryCount)) :
    (full → (judgedPlausible w d s).reserve =
        measured w s.responds { s.reserve.joined (joinThree d s.reserve.history) with state := .measuring })
      ∧ (¬full → (judgedPlausible w d s).reserve = s.reserve.joined (joinThree d s.reserve.history)) := by
  rw [hfull]
  cases hstate : s.reserve.state with
  | disabled => exact absurd hstate hlive
  | measuring => simp [judgedPlausible, hstate, takePlausible, Reserve.joined]
  | starting =>
    by_cases hthree : 3 ≤ (joinThree d s.reserve.history).length <;>
      simp [judgedPlausible, hstate, takePlausible, Reserve.joined, hthree]
  | mainsLost =>
    by_cases htwo : 2 ≤ s.reserve.recoveryCount
    · have hthird : 3 ≤ s.reserve.recoveryCount + 1 := by omega
      simp [judgedPlausible, hstate, recoverPlausible, Reserve.joined, htwo, hthird]
    · have hthird : ¬ 3 ≤ s.reserve.recoveryCount + 1 := by omega
      simp [judgedPlausible, hstate, recoverPlausible, Reserve.joined, htwo, hthird]

/-- Settles O43: the judgement by `judgedPlausible_reserve`, the response by the cases of 7.4 and 7.7. -/
theorem plausibleMeasurementsDriveTheResponse : Obligations.PlausibleMeasurementsDriveTheResponse := by
  intro s w m time edge cycles sum f d history full hw _ hactive hlive hcycles hm hedges hedge hsum hpos hf hlow hhigh hd
    hhistory hfull
  obtain rfl : cycles = cycleCount w := hcycles
  have hexec := exec_mainsEdge_completes (time := time) hw (active_of_cases hactive) hm hedges hedge
  rw [← hsum, frequencyOf_pos hpos, ← hf, judgeMeasurement_plausible _ ⟨hlow, hhigh⟩,
    show deviationOf w f = d from hd.symm, State.setReserve_twice] at hexec
  rw [← joinThree_eq_drop] at hhistory
  generalize ha : (s.elapse (time - s.clock)).setReserve _ = a at hexec
  have hreserve : a.reserve = { s.reserve with
      measurement := some { start := edge, edges := 0, periodSum := 0 }, edgeTimeout := some 50000
      lastFrequency := some f, plausible := true } := by rw [← ha]; rfl
  have hjoined : joinThree d a.reserve.history = history := by rw [hreserve, hhistory]
  have hresponds : a.responds = s.responds := by
    rw [← ha]; simp [State.responds, State.isPost, State.role, elapse_link]
  obtain ⟨hmeasured, hkept⟩ := judgedPlausible_reserve (w := w) (d := d) (s := a) (full := full)
    (by rw [hreserve]; exact hlive) (by rw [hfull, hjoined, hreserve])
  rw [hjoined, hreserve] at hmeasured hkept
  rw [hresponds] at hmeasured
  have hframe : unchangedExcept [.reserve] (s.elapse (time - s.clock)) (judgedPlausible w d a) := by
    rw [← ha]; exact unchangedExcept_of_same
  generalize judgedPlausible w d a = t at *
  by_cases hdone : full
  · have ht := hmeasured hdone
    obtain ⟨hflat, hsteep⟩ := droopOf_cases w t.reserve.active
    obtain ⟨hdown, hup, hzero⟩ := responseOf_cases t.reserve.active t.reserve.droop s.reserve.upShare s.reserve.downShare
    have hactiveNow : t.reserve.active = activeOf w history := by rw [ht]; rfl
    have hdroop : t.reserve.droop = droopOf w t.reserve.active := by rw [ht]; rfl
    have hresponse : t.reserve.response = if s.responds then
        responseOf t.reserve.active t.reserve.droop s.reserve.upShare s.reserve.downShare else 0 := by rw [ht]; rfl
    refine ⟨t, hexec, by rw [ht]; rfl, by rw [ht]; rfl, by rw [ht]; rfl, by rw [ht]; rfl, by rw [ht]; rfl,
      by rw [ht]; rfl, fun hlost => ?_, fun hnot => ?_, fun h => absurd hdone h, fun _ => ⟨by rw [ht]; rfl,
      fun x y z hxyz => ?_, fun h => hdroop.trans (hflat h), fun h => hdroop.trans (hsteep h), fun hpost hrun => ?_,
      fun hgrounded => ?_⟩, by rw [ht]; rfl, by rw [ht]; rfl, by rw [ht]; rfl, by rw [ht]; rfl, by rw [ht]; rfl,
      by rw [ht]; rfl, hframe⟩
    · rw [ht]; exact if_pos hlost
    · rw [ht]; exact if_neg hnot
    · rw [hactiveNow, hxyz]
      exact activeOf_three w x y z
    · have hon : s.responds = true := by simp [State.responds, isPost_of_role hw hpost, hrun]
      rw [hresponse, if_pos hon]
      exact ⟨hdown, hup, hzero⟩
    · have hoff : s.responds = false := by
        rcases hgrounded with h | h <;> simp [State.responds, State.isPost, State.role, hw, h]
      rw [hresponse, hoff]
      rfl
  · have ht := hkept hdone
    refine ⟨t, hexec, by rw [ht]; rfl, by rw [ht]; rfl, by rw [ht]; rfl, by rw [ht]; rfl, by rw [ht]; rfl,
      by rw [ht]; rfl, fun hlost => ?_, fun hnot => ?_,
      fun _ => ⟨by rw [ht]; rfl, by rw [ht]; rfl, by rw [ht]; rfl, by rw [ht]; rfl⟩, fun h => absurd h hdone,
      by rw [ht]; rfl, by rw [ht]; rfl, by rw [ht]; rfl, by rw [ht]; rfl, by rw [ht]; rfl, by rw [ht]; rfl, hframe⟩
    · rw [ht]; exact if_pos hlost
    · rw [ht]; exact if_neg hnot

/-! ## Implausible measurements (R133, R137 to R139) -/

theorem plausibleOf_far {w : WorkingCopy} {f : Option Nat} (h : ∀ g ∈ f, g + 5000 < nominal w ∨ nominal w + 5000 < g) :
    plausibleOf w f = false := by
  cases f with
  | none => rfl
  | some g =>
    have hfar := h g rfl
    simp only [plausibleOf, Option.any_some, decide_eq_false_iff_not]
    omega

/-- An edge timeout that has run out abandons the measurement (R133). -/
theorem exec_edgeTimeout_due {s : State} {w : WorkingCopy} (hw : s.store.working = some w)
    (hs : s.link.station.active = true) (hdue : s.reserve.edgeTimeout = some 0) :
    exec .edgeTimeout s = .next (judgeMeasurement w none
      (s.setReserve { s.reserve with measurement := none, edgeTimeout := some 50000 })) := by
  show Host.Outcome.next (edgeTimedOut s) = _
  simp [edgeTimedOut, hw, hs, hdue, abandonMeasurement, edgeTimeoutTime]

section
variable {s : State}

theorem judgedImplausible_disabled (h : s.reserve.state = .disabled) : judgedImplausible s = s := by
  simp [judgedImplausible, h]

theorem judgedImplausible_mainsLost (h : s.reserve.state = .mainsLost) :
    judgedImplausible s = s.setReserve (recoverImplausible s.reserve) := by simp [judgedImplausible, h]

theorem judgedImplausible_live (h : s.reserve.state = .starting ∨ s.reserve.state = .measuring) :
    judgedImplausible s = takeImplausible s := by
  rcases h with h | h <;> simp [judgedImplausible, h]

theorem takeImplausible_few (h : bump 255 s.reserve.implausibleCount < 10) :
    takeImplausible s = s.setReserve { s.reserve with implausibleCount := bump 255 s.reserve.implausibleCount } :=
  if_neg (by omega)

theorem takeImplausible_tenth (h : 10 ≤ bump 255 s.reserve.implausibleCount) :
    takeImplausible s = raise .mainsLost
      (s.setReserve (loseMains { s.reserve with implausibleCount := bump 255 s.reserve.implausibleCount })) :=
  if_pos h

end

/-- Settles O44: either source leads to the same judgement, taken by the reserve state. -/
theorem implausibleMeasurementsLoseTheMains : Obligations.ImplausibleMeasurementsLoseTheMains := by
  refine ⟨fun s hnot => ?_, fun s a w c f n hw hactive hsource hn => ?_⟩
  · have hcond : (due s.reserve.edgeTimeout && s.link.station.active) = false := by
      rw [Bool.eq_false_iff]
      simp [hnot]
    show Host.Outcome.next (edgeTimedOut s) = _
    cases hw : s.store.working <;> simp [edgeTimedOut, hw, hcond]
  have hjudged : exec c s = .next (judgeMeasurement w f a) ∧ plausibleOf w f = false
      ∧ a.reserve.state = s.reserve.state ∧ a.reserve.implausibleCount = s.reserve.implausibleCount
      ∧ a.service = s.service := by
    rcases hsource with ⟨rfl, hdue, rfl, rfl⟩ | ⟨time, edge, m, cycles, sum, rfl, hedge, hcycles, hm, hedges, rfl, rfl, hfar,
      rfl⟩
    · exact ⟨exec_edgeTimeout_due hw (active_of_cases hactive) hdue, rfl, rfl, rfl, rfl⟩
    · obtain rfl : cycles = cycleCount w := hcycles
      exact ⟨exec_mainsEdge_completes hw (active_of_cases hactive) hm hedges hedge, plausibleOf_far hfar, rfl, rfl, rfl⟩
  obtain ⟨hexec, hfar, hstate, hcounted, hservice⟩ := hjudged
  rw [judgeMeasurement_implausible _ hfar] at hexec
  have hbump : bump 255 a.reserve.implausibleCount = n := by rw [hcounted, hn]; rfl
  refine ⟨_, hexec, fun hdisabled => ?_, fun hlost => ?_, fun hlive hfew => ?_, fun hlive hten => ?_, ?_⟩
  · rw [judgedImplausible_disabled (by simpa [hstate] using hdisabled)]
    exact ⟨rfl, hservice⟩
  · rw [judgedImplausible_mainsLost (by simpa [hstate] using hlost), ← hbump]
    exact ⟨rfl, hservice⟩
  · rw [judgedImplausible_live (by simpa [hstate] using hlive), takeImplausible_few (by simpa [hbump] using hfew), ← hbump]
    exact ⟨rfl, hservice⟩
  · rw [judgedImplausible_live (by simpa [hstate] using hlive), takeImplausible_tenth (by simpa [hbump] using hten),
      ← hbump, ← hservice]
    exact ⟨rfl, by simp [withCause, Cause.bit, BitVec.twoPow]⟩
  · exact unchangedExcept_of_same

/-! ## Offers (R15, R142, R145) -/

theorem linked_iff (r : Readiness) :
    r.linked = true ↔ r ∈ [.unplanned, .charging, .atRisk, .topped, .conditioning, .due] := by
  cases r <;> decide

/-- The accepting condition, in the manual's words (R15). -/
theorem accepting_iff (s : State) :
    s.accepting = true ↔ s.tracker.readiness ∈ [.unplanned, .charging, .atRisk, .topped, .conditioning, .due]
      ∧ s.vehicle.pilot = .energy
      ∧ ∃ k, s.vehicle.lastStatus = some k ∧ k.flags.getLsbD 0 = true ∧ k.flags.getLsbD 1 = true := by
  rw [← linked_iff]
  cases hk : s.vehicle.lastStatus <;>
    simp [State.accepting, hk, statusAccepts, statusContactor, and_assoc]

/-- A unit offers in RUNNING in the POST role while STARTING or MEASURING (R142). -/
theorem offers_iff (s : State) :
    s.offers = true ↔ s.isPost = true ∧ s.link.station = .running
      ∧ (s.reserve.state = .starting ∨ s.reserve.state = .measuring) := by
  cases hstate : s.reserve.state <;> simp [State.offers, State.responds, hstate]

/-- Settles O45: the offers of this moment, then the shares lowered to them. -/
theorem offersFollowTheTable : Obligations.OffersFollowTheTable := by
  intro s up down upper room
  refine ⟨accepting_iff s, linked_iff _, fun hupper hroom htable => ?_⟩
  have hclamp : s.upperClamp = upper := hupper.symm
  have hfull : (s.account.enow.any fun e => decide (e < s.ecap)) = room := by
    rw [hroom]
    cases s.account.enow <;> cases hk : s.vehicle.lastStatus <;> simp [State.ecap, hk]
  have hnow : (s.offerUpNow, s.offerDownNow) = (up, down) := by
    rw [htable]
    by_cases hoffers : s.offers = true
    · rw [if_pos ((offers_iff s).mp hoffers)]
      simp [State.offerUpNow, State.offerDownNow, hoffers, hclamp, hfull]
    · rw [if_neg fun k => hoffers ((offers_iff s).mpr k)]
      simp [State.offerUpNow, State.offerDownNow, hoffers]
  obtain ⟨rfl, rfl⟩ : s.offerUpNow = up ∧ s.offerDownNow = down := by simpa using hnow
  have hexec : exec .offerCompute s = .next (computeOffers s) := rfl
  exact ⟨_, hexec, rfl, unchangedExcept_of_same⟩

end Sys2Proof.Machine

/-! PROOFS. The REPORT that a post takes: its composer, the recompute of a changed derating, the halt of a FAULT and the
power integrated (8.2, 8.3, 8.6, 3.2). -/

namespace Sys2Proof.Machine

/-! ## A recompute, seen by what it leaves -/

/-- What a recompute may have done to a state: the tracker's derived values, readiness, urgency, claim and outcome, A
lowered, lending, and AT_RISK_ENTERED (R30, R58, R114). -/
structure State.Reworked (s t : State) : Prop where
  tracker : t.tracker = { s.tracker with
    derived := t.tracker.derived, readiness := t.tracker.readiness, urgency := t.tracker.urgency
    claim := t.tracker.claim, outcome := t.tracker.outcome }
  live : t.tracker.readiness = s.tracker.readiness
    ∨ (s.tracker.readiness.linked = true ∧ t.tracker.readiness.linked = true)
  lowered : ∃ bound, s.share.LoweredTo bound t.share
  service : t.service = s.service ∨ t.service = { s.service with pendingCauses := s.service.pendingCauses ||| 1#12 }
  account : t.account =
    { s.account with gate := t.account.gate, lendable := t.account.lendable, offer := t.account.offer }
  frame : unchangedExcept [.tracker, .account, .share, .service] s t

theorem Share.LoweredTo.refl (sh : Share) : sh.LoweredTo sh.allowance sh :=
  ⟨fun _ => rfl, fun h => absurd h (by omega), fun h => absurd h (by omega)⟩

theorem State.Reworked.refl (s : State) : s.Reworked s :=
  ⟨rfl, .inl rfl, ⟨_, Share.LoweredTo.refl _⟩, .inl rfl, rfl, unchangedExcept_refl _ _⟩

theorem recompute_reworked {b : Bool} {s : State} {w : WorkingCopy} (hw : s.store.working = some w)
    (hlinked : s.tracker.readiness.linked = true) : s.Reworked (recompute b s) := by
  cases hc : s.tracker.card with
  | none => rw [recompute_noCard hc]; exact State.Reworked.refl s
  | some c =>
    obtain ⟨htracker, hshare, hservice, haccount⟩ := recompute_effect (b := b) hw hc
    refine ⟨?_, .inr ⟨hlinked, ?_⟩, ⟨(s.recomputed b w c).claim, ?_⟩, ?_, ?_, unchangedExcept_of_same⟩
    · rw [htracker]; rfl
    · rw [htracker]; exact readinessOf_linked _ _ _
    · rw [hshare]; exact loweredTo_setAllowance _ _
    · rw [hservice]
      split
      · exact .inr rfl
      · exact .inl rfl
    · rw [haccount]

/-- A halt that follows a recompute is a halt of the state before it (R6, R42). -/
theorem State.Reworked.haltedBy {r : HaltReason} {s u t : State} (h : s.Reworked u) (hk : u.HaltedBy r t) :
    s.HaltedBy r t := by
  obtain ⟨bound, hlowered⟩ := h.lowered
  refine ⟨?_, ?_, hlowered.trans hk.share (Nat.zero_le _)⟩
  · rw [hk.vehicle, show u.vehicle = s.vehicle from h.frame .vehicle (by decide)]
  · rw [hk.tracker, h.tracker]

theorem State.HaltedBy.of_same {r : HaltReason} {s t s' t' : State} (h : s.HaltedBy r t)
    (before : s'.vehicle = s.vehicle ∧ s'.tracker = s.tracker ∧ s'.share = s.share)
    (after : t'.vehicle = t.vehicle ∧ t'.tracker = t.tracker ∧ t'.share = t.share) : s'.HaltedBy r t' := by
  obtain ⟨hvehicle, htracker, hshare⟩ := before
  obtain ⟨kvehicle, ktracker, kshare⟩ := after
  constructor
  · rw [kvehicle, hvehicle, h.vehicle]
  · rw [ktracker, htracker, h.tracker]
  · rw [kshare, hshare]; exact h.share

/-- A halt leaves no allowance (R114). -/
theorem State.HaltedBy.allowance {r : HaltReason} {s t : State} (h : s.HaltedBy r t) : t.share.allowance = 0 := by
  rcases Nat.eq_zero_or_pos s.share.allowance with hzero | hpos
  · rw [h.share.kept hzero.le, hzero]
  rcases Nat.eq_zero_or_pos (min s.share.held 0) with hfree | hheld
  · rw [h.share.released hpos hfree]
  · rw [h.share.holding hpos hheld]

/-! ## The power that is handed over (R51, R52, R54) -/

theorem integrate_lending (p : Int) (a : Account) (gate : LendingGate) (lendable offer : Nat) :
    integrate p { a with gate := gate, lendable := lendable, offer := offer } =
      { integrate p a with gate := gate, lendable := lendable, offer := offer } := by
  simp only [integrate, integrateDelta, integrateIn, integrateOut]
  repeat' split
  all_goals rfl

theorem handOver_closed {p : Int} {s : State} (h : s.vehicle.sessionOpen = false) : handOver p s = s := by
  simp [handOver, h]

theorem handOver_open {p : Int} {s : State} (hpost : s.isPost = true) (h : s.vehicle.sessionOpen = true) :
    handOver p s = updateLending (updateEstimate (s.setAccount (integrate p s.account))) := by
  simp [handOver, hpost, h]

theorem handOver_lends {p : Int} {s : State} (h : s.LendsByTable) : (handOver p s).LendsByTable := by
  unfold handOver
  split
  · exact updateLending_lends _
  · exact h

/-! ## The composer of a REPORT (R153, R154, R160) -/

theorem converterOf_mem {code : Byte} {converter : Converter}
    (h : (code = 0 ∧ converter = .standby) ∨ (code = 1 ∧ converter = .waking) ∨ (code = 2 ∧ converter = .ready)
      ∨ (code = 3 ∧ converter = .fault)) : Converter.ofByte code = some converter := by
  rcases h with ⟨rfl, rfl⟩ | ⟨rfl, rfl⟩ | ⟨rfl, rfl⟩ | ⟨rfl, rfl⟩ <;> rfl

/-- The mode transitions of a reported state, each with its timers (R160). -/
theorem Composer.reported_eq (state : Converter) (c : Composer) :
    c.reported state = { c with
      mode := (match c.mode with
        | .standby => .standby
        | .wake => if state = .ready then .run else .wake
        | .run => if state = .ready then .run else if c.target ≠ 0 then .wake else .standby)
      settle := (c.reported state).settle, idleTimer := (c.reported state).idleTimer
      wakeTimer := (c.reported state).wakeTimer
      timedOut := c.timedOut && !(decide (c.mode = .run) && decide (state ≠ .ready) && decide (c.target ≠ 0)) } := by
  unfold Composer.reported
  cases hmode : c.mode with
  | standby =>
    simp only [reduceCtorEq, decide_false, Bool.false_and, Bool.not_false, Bool.and_true]
    rw [← hmode]
  | wake =>
    by_cases hready : state = .ready
    · simp [hready]
    · simp only [hready, if_false, reduceCtorEq, decide_false, Bool.false_and, Bool.not_false, Bool.and_true]
      rw [← hmode]
  | run =>
    by_cases hready : state = .ready
    · simp only [hready, if_true, ne_eq, not_true_eq_false, decide_false, Bool.and_false, Bool.false_and, Bool.not_false,
        Bool.and_true]
      rw [← hmode]
    · by_cases htarget : c.target = 0 <;> simp [hready, htarget, Composer.wakeUp, Composer.standBy]

theorem Composer.reported_stored (state : Converter) (c : Composer) :
    (c.reported state).pderated = c.pderated ∧ (c.reported state).converter = c.converter := by
  rw [Composer.reported_eq]
  exact ⟨rfl, rfl⟩

/-- The timers of the mode transitions (R160). -/
theorem Composer.reported_timers (state : Converter) (c : Composer) :
    (c.mode = .wake → state = .ready → (c.reported state).settle = 2 ∧ (c.reported state).wakeTimer = none
        ∧ (c.reported state).idleTimer = c.idleTimer)
      ∧ (c.mode = .run → state ≠ .ready → (c.reported state).settle = 0 ∧ (c.reported state).idleTimer = 0
        ∧ (c.reported state).wakeTimer = if c.target ≠ 0 then some 0 else none)
      ∧ ((c.mode = .standby ∨ (c.mode = .wake ∧ state ≠ .ready) ∨ (c.mode = .run ∧ state = .ready)) →
        (c.reported state).settle = c.settle ∧ (c.reported state).idleTimer = c.idleTimer
          ∧ (c.reported state).wakeTimer = c.wakeTimer) := by
  unfold Composer.reported
  refine ⟨fun h k => ?_, fun h k => ?_, ?_⟩
  · simp [h, k]
  · by_cases htarget : c.target = 0 <;> simp [h, k, htarget, Composer.wakeUp, Composer.standBy]
  · rintro (h | ⟨h, k⟩ | ⟨h, k⟩)
    · simp [h]
    · simp [h, k]
    · simp [h, k]

/-- A REPORT's composer before the mode transition: its values stored, the derating computed (R153, R154). -/
def Composer.afterReport (w : WorkingCopy) (r : WireReport) (state : Converter) (c : Composer) : Composer :=
  (c.storeReport r state).derated w

theorem rederate_kept {w : WorkingCopy} {s : State}
    (h : (s.composer.derated w).pderated = s.composer.pderated ∨ s.tracker.readiness.linked = false) :
    rederate w s = s.setComposer (s.composer.derated w) := by
  unfold rederate recomputeIfLinked
  rcases h with h | h
  · rw [if_pos h]
  · split
    · rfl
    · rw [if_neg (by simpa using h)]

theorem rederate_changed {w : WorkingCopy} {s : State}
    (h : (s.composer.derated w).pderated ≠ s.composer.pderated) (hlinked : s.tracker.readiness.linked = true) :
    rederate w s = recompute false (s.setComposer (s.composer.derated w)) := by
  rw [rederate, if_neg h, recomputeIfLinked, if_pos (by simpa using hlinked)]

/-! ## The REPORT of a post -/

theorem exec_reportReceived (r : WireReport) (s : State) : exec (.reportReceived r) s = .next (receiveReport r s) := rfl

theorem receiveReport_taken {r : WireReport} {s : State} {converter : Converter}
    (h : Converter.ofByte r.state = some converter) (hs : s.link.station.active = true) :
    receiveReport r s = acceptByRole r converter s := by simp [receiveReport, h, hs]

theorem converter_ofByte_none {b : Byte} (h : 3 < b.toNat) : Converter.ofByte b = none := by
  unfold Converter.ofByte
  rw [if_neg, if_neg, if_neg, if_neg]
  all_goals rintro rfl; exact absurd h (by decide)

/-- The steps of a REPORT: the recompute of a changed derating, the mode, a halt, the power (R153). -/
theorem acceptReport_eq (w : WorkingCopy) (r : WireReport) (state : Converter) (s : State) :
    acceptReport w r state s = handOver r.power.toInt (evaluateConverter
      ((rederate w (s.setComposer (s.composer.storeReport r state))).setComposer
        ((s.composer.afterReport w r state).reported state))) := by
  simp [acceptReport, rederate_composer, Composer.afterReport, Composer.storeReport]

/-- The derating step of a REPORT, whatever it does to the session (R154). -/
theorem rederate_report {w : WorkingCopy} {s : State} {c : Composer} (hw : s.store.working = some w) :
    (s.setComposer (c.derated w)).Reworked (rederate w (s.setComposer c)) := by
  by_cases hkept : (c.derated w).pderated = c.pderated ∨ s.tracker.readiness.linked = false
  · rw [rederate_kept (s := s.setComposer c) hkept]
    exact State.Reworked.refl _
  · obtain ⟨hchanged, hlinked⟩ := not_or.mp hkept
    rw [rederate_changed (s := s.setComposer c) hchanged (by simpa using hlinked)]
    exact recompute_reworked (s := s.setComposer (c.derated w)) hw (by simpa using hlinked)

theorem evaluateConverter_other {s : State} (h : s.composer.converter ≠ some .fault
    ∨ ¬(s.tracker.readiness = .linking ∨ s.tracker.readiness.linked = true)) : evaluateConverter s = s := by
  unfold evaluateConverter
  split
  next hfault => exact stageFault_dead (h.resolve_left (not_not.mpr hfault))
  next => rfl

theorem evaluateConverter_halts {s : State} (h : s.composer.converter = some .fault)
    (hlive : s.tracker.readiness = .linking ∨ s.tracker.readiness.linked = true) :
    evaluateConverter s = halt .stageFault s := by
  rw [evaluateConverter, if_pos h, stageFault_live hlive]

theorem live_ne_halted {r : Readiness} (h : r = .linking ∨ r.linked = true) : r ≠ .halted := by
  rcases h with rfl | h
  · decide
  · exact linked_ne_halted h

/-- A session that lives on through a recompute. -/
theorem State.Reworked.live_iff {s t : State} (h : s.Reworked t) :
    (t.tracker.readiness = .linking ∨ t.tracker.readiness.linked = true)
      ↔ (s.tracker.readiness = .linking ∨ s.tracker.readiness.linked = true) := by
  rcases h.live with heq | ⟨hbefore, hafter⟩
  · rw [heq]
  · simp [hbefore, hafter]

/-- What the evaluation of the converter keeps of the account and of what the estimate reads (R6, R163). -/
theorem evaluateConverter_account (s : State) :
    (evaluateConverter s).account = { s.account with
        gate := (evaluateConverter s).account.gate, lendable := (evaluateConverter s).account.lendable
        offer := (evaluateConverter s).account.offer }
      ∧ (evaluateConverter s).vehicle.sessionOpen = s.vehicle.sessionOpen
      ∧ (evaluateConverter s).vehicle.lastStatus = s.vehicle.lastStatus := by
  by_cases h : s.composer.converter = some .fault
      ∧ (s.tracker.readiness = .linking ∨ s.tracker.readiness.linked = true)
  · rw [evaluateConverter_halts h.1 h.2]
    obtain ⟨hhalted, haccount, -⟩ := halt_halts (r := .stageFault) (live_ne_halted h.2)
    rw [haccount, hhalted.vehicle]
    exact ⟨rfl, rfl, rfl⟩
  · rw [evaluateConverter_other (not_and_or.mp h)]
    exact ⟨rfl, rfl, rfl⟩

/-- The states between the steps of a REPORT: `k` is the composer with its values stored, `b` the state after the
derating has been handed to the tracker, `e` the one after the converter has been evaluated (R153). -/
structure State.ReportRun (k : Composer) (converter : Converter) (s b e : State) : Prop where
  reworked : (s.setComposer k).Reworked b
  kept : (k.pderated = s.composer.pderated ∨ s.tracker.readiness.linked = false) → b = s.setComposer k
  changed : k.pderated ≠ s.composer.pderated → s.tracker.readiness.linked = true →
    b = recompute false (s.setComposer k)
  stored : k.converter = some converter
  evaluated : e = evaluateConverter (b.setComposer (k.reported converter))

theorem acceptReport_run {w : WorkingCopy} {r : WireReport} {converter : Converter} {s : State}
    (hw : s.store.working = some w) :
    ∃ b e, s.ReportRun (s.composer.afterReport w r converter) converter b e
      ∧ acceptReport w r converter s = handOver r.power.toInt e :=
  ⟨_, _, ⟨rederate_report hw, rederate_kept (s := s.setComposer (s.composer.storeReport r converter)),
    rederate_changed (s := s.setComposer (s.composer.storeReport r converter)), rfl, rfl⟩, acceptReport_eq ..⟩

section
variable {k : Composer} {converter : Converter} {s b e : State}

theorem State.ReportRun.frame (h : s.ReportRun k converter b e) :
    unchangedExcept [.composer, .tracker, .account, .share, .vehicle, .service] s e := by
  have hstored : unchangedExcept [.composer] s (s.setComposer k) := unchangedExcept_of_same
  have hmoved : unchangedExcept [.composer] b (b.setComposer (k.reported converter)) := unchangedExcept_of_same
  have hevaluated : unchangedExcept [.vehicle, .tracker, .account, .share, .service]
      (b.setComposer (k.reported converter)) e := by rw [h.evaluated]; exact unchangedExcept_of_same
  exact unchangedExcept_comp (unchangedExcept_comp (unchangedExcept_comp hstored h.reworked.frame (n := [.composer, .tracker,
    .account, .share, .vehicle, .service]) (by decide) (by decide)) hmoved (fun _ h => h) (by decide)) hevaluated
    (fun _ h => h) (by decide)

theorem State.ReportRun.composer (h : s.ReportRun k converter b e) : e.composer = k.reported converter := by
  simp [h.evaluated]

theorem State.ReportRun.vehicle (h : s.ReportRun k converter b e) : b.vehicle = s.vehicle :=
  h.reworked.frame .vehicle (by decide)

theorem State.ReportRun.isPost (h : s.ReportRun k converter b e) : e.isPost = s.isPost :=
  isPost_of_same (by rw [show e.store = s.store from h.frame .store (by decide)])

/-- A REPORT before its power is integrated leaves the account but for lending, and the session as it was. -/
theorem State.ReportRun.account (h : s.ReportRun k converter b e) :
    e.account = { s.account with gate := e.account.gate, lendable := e.account.lendable, offer := e.account.offer }
      ∧ e.vehicle.sessionOpen = s.vehicle.sessionOpen ∧ e.vehicle.lastStatus = s.vehicle.lastStatus := by
  obtain ⟨haccount, hopen, hstatus⟩ := evaluateConverter_account (b.setComposer (k.reported converter))
  rw [← h.evaluated] at haccount hopen hstatus
  rw [hopen, hstatus]
  simp only [State.setComposer_vehicle, h.vehicle, and_self, and_true]
  rw [haccount, State.setComposer_account, h.reworked.account]
  rfl

/-- No halt without a FAULT or without a session: the converter's evaluation changes nothing. -/
theorem State.ReportRun.quiet (h : s.ReportRun k converter b e)
    (hnone : converter ≠ .fault ∨ ¬(s.tracker.readiness = .linking ∨ s.tracker.readiness.linked = true)) :
    e = b.setComposer (k.reported converter) := by
  rw [h.evaluated]
  refine evaluateConverter_other (hnone.imp (fun hne => ?_) fun hdead hlive => hdead (h.reworked.live_iff.mp hlive))
  rw [State.setComposer_composer, (Composer.reported_stored ..).2, h.stored]
  simpa using hne

/-- A FAULT halts a session, whatever the recompute before it made of the session (R163). -/
theorem State.ReportRun.halts (h : s.ReportRun k converter b e) (hfault : converter = .fault)
    (hlive : s.tracker.readiness = .linking ∨ s.tracker.readiness.linked = true) :
    s.HaltedBy .stageFault e ∧ e.LendsByTable
      ∧ e.service = { b.service with pendingCauses := b.service.pendingCauses ||| 2#12 } := by
  have hnow : (b.setComposer (k.reported converter)).tracker.readiness = .linking
      ∨ (b.setComposer (k.reported converter)).tracker.readiness.linked = true := h.reworked.live_iff.mpr hlive
  have heval := h.evaluated
  rw [evaluateConverter_halts
    (by rw [State.setComposer_composer, (Composer.reported_stored ..).2, h.stored, hfault]) hnow] at heval
  obtain ⟨hhalted, -, hservice⟩ := halt_halts (r := .stageFault) (live_ne_halted hnow)
  have hlends := halt_lends (r := .stageFault) (live_ne_halted hnow)
  rw [← heval] at hhalted hservice hlends
  have hb : b.HaltedBy .stageFault e := hhalted.of_same ⟨rfl, rfl, rfl⟩ ⟨rfl, rfl, rfl⟩
  exact ⟨(h.reworked.haltedBy hb).of_same ⟨rfl, rfl, rfl⟩ ⟨rfl, rfl, rfl⟩, hlends, hservice⟩

/-- The power of a session is integrated into the account as it stood (R52, R54). -/
theorem State.ReportRun.integrated (h : s.ReportRun k converter b e) (power : Int) (hpost : s.isPost = true)
    (hopen : s.vehicle.sessionOpen = true) :
    ∃ gate lendable offer, (handOver power e).account = { integrate power s.account with
      enow := s.vehicle.lastStatus.map fun t => estimate t (integrate power s.account).delta
      gate := gate, lendable := lendable, offer := offer } := by
  obtain ⟨haccount, hsession, hstatus⟩ := h.account
  rw [handOver_open (h.isPost.trans hpost) (hsession.trans hopen), haccount, integrate_lending]
  simp only [updateLending_account, updateEstimate_account, State.setAccount_vehicle, State.setAccount_account, hstatus]
  exact ⟨_, _, _, rfl⟩

end

/-- Settles O46: the steps of `State.ReportRun`, the recompute by what it leaves and, with its inputs known, by the
tables. -/
theorem reportIsTaken : Obligations.ReportIsTaken := by
  intro s r
  refine ⟨fun hdiscarded => ?_, fun w converter temperature power index pderated live hw hpost hactive hcode htemperature
    hpower hindex hpderated hlive => ?_⟩
  · rw [exec_reportReceived]
    rcases hdiscarded with hcode | ⟨hnone, hloading, hunconfigured⟩
    · simp [receiveReport, converter_ofByte_none hcode]
    · have hs : s.link.station.active = true := by
        cases hstation : s.link.station <;> simp_all [Station.active]
      unfold receiveReport
      split <;> simp [hs, acceptByRole, hnone]
  obtain ⟨b, e, hrun, htaken⟩ := acceptReport_run (r := r) (converter := converter) hw
  have hexec := exec_reportReceived r s
  rw [receiveReport_taken (converterOf_mem hcode) (active_of_cases hactive), acceptByRole, hw] at hexec
  simp only [if_pos hpost, htaken, ← hpower] at hexec
  have hindexed : derateIndexOf (some temperature) = index :=
    Int.ofNat_inj.mp ((derateIndexOf_some temperature).trans hindex.symm)
  have hafter : s.composer.afterReport w r converter = { s.composer with
      draw := power, converter := some converter, temperature := some temperature, silentCount := 0
      derateIndex := index, derateFactor := w.derate.getD index 0, pderated := pderated } := by
    rw [Composer.afterReport, Composer.derated, Composer.storeReport]
    simp only [← htemperature, ← hpower, hindexed, ← hpderated]
  have hliveIff : live = true ↔ (s.tracker.readiness = .linking ∨ s.tracker.readiness.linked = true) := by
    rw [hlive]; simp [or_comm]
  have hpd : (s.composer.afterReport w r converter).pderated = pderated := by rw [hafter]
  have htcomposer : (handOver power e).composer = (s.composer.afterReport w r converter).reported converter :=
    (handOver_frame power e).2.2.2.2.2.2.1.trans hrun.composer
  obtain ⟨hwakes, hleaves, hstays⟩ := Composer.reported_timers converter (s.composer.afterReport w r converter)
  rw [← htcomposer] at hwakes hleaves hstays
  have hsame : pderated = s.composer.pderated ∨ s.tracker.readiness.linked = false →
      b = s.setComposer (s.composer.afterReport w r converter) := by rw [← hpd]; exact hrun.kept
  have hchanges := hrun.changed
  rw [hpd] at hchanges
  refine ⟨_, hexec, ?_, ?_, ?_, ?_, fun hopen => ?_, fun hopen => ?_, fun hclosed => ?_, fun hfault hon => ?_,
    fun hnone hkept => ?_, fun hnone hchanged hlinked hcard => ?_, fun c n hnone hchanged hlinked hcard hn => ?_,
    unchangedExcept_comp hrun.frame (unchangedExcept_of_same (l := [.account])) (fun _ h => h) (by decide)⟩
  · rw [htcomposer, hafter]
    exact Composer.reported_eq converter _
  · rw [hafter] at hwakes
    exact hwakes
  · rw [hafter] at hleaves
    exact hleaves
  · rw [hafter] at hstays
    exact hstays
  · obtain ⟨_, _, _, haccount⟩ := hrun.integrated power (isPost_of_role hw hpost) hopen
    rw [haccount]
    exact ⟨rfl, rfl, rfl, rfl, rfl, rfl, rfl⟩
  · rw [handOver_open (hrun.isPost.trans (isPost_of_role hw hpost)) (hrun.account.2.1.trans hopen)]
    exact updateLending_lends _
  · rw [handOver_closed (hrun.account.2.1.trans hclosed)]
    exact hrun.account.1
  · obtain ⟨hhalted, hlends, hservice⟩ := hrun.halts hfault (hliveIff.mp hon)
    have hthalted : s.HaltedBy .stageFault (handOver power e) := hhalted.of_same ⟨rfl, rfl, rfl⟩ (by simp)
    refine ⟨hthalted, hthalted.allowance, handOver_lends hlends, ?_⟩
    rw [show (handOver power e).service = e.service by simp, hservice]
    by_cases hkept : pderated = s.composer.pderated ∨ s.tracker.readiness.linked = false
    · rw [hsame hkept]
      exact ⟨rfl, .inl rfl⟩
    · rcases hrun.reworked.service with h | h <;> rw [h]
      · exact ⟨rfl, .inl rfl⟩
      · refine ⟨rfl, .inr ⟨fun h => hkept (.inl h), ?_⟩⟩
        simp only [State.setComposer_service, BitVec.or_assoc]
        rfl
  · rw [hrun.quiet (hnone.imp_right fun hoff => by rw [← hliveIff, hoff]; decide), hsame hkept]
    exact ⟨by simp, by simp, by simp, by simp, fun hclosed => by rw [handOver_closed (by simpa using hclosed)]; rfl⟩
  · obtain ⟨card, hcard⟩ := Option.isSome_iff_exists.mp hcard
    rw [hrun.quiet (.inl hnone), hchanges hchanged hlinked]
    obtain ⟨htracker, hshare, -, -⟩ := recompute_effect (b := false)
      (s := s.setComposer (s.composer.afterReport w r converter)) hw hcard
    simp only [handOver_frame, State.setComposer_tracker, State.setComposer_share, State.setComposer_vehicle, htracker,
      hshare]
    refine ⟨⟨_, rfl, ?_⟩, ?_, cutAllowance_allowance _ _, by simp⟩
    · rw [← hpd]; rfl
    · rw [← hpd]; exact claimOf_le _ _ _
  · have hdone := recompute_recomputes (b := false) (s := s.setComposer (s.composer.afterReport w r converter)) hw hcard hn
    rw [← hchanges hchanged hlinked] at hdone
    obtain ⟨htracker, hfollows, hlowered, hlends, -, -, hservice, -⟩ := hdone
    rw [hrun.quiet (.inl hnone)]
    refine ⟨hfollows.of_same (by simp) (by simp) (by simp) (by simp) (by simp) (by simp) ?_, handOver_lends ?_, ?_, ?_, ?_⟩
    · rw [show b.composer = _ from hrun.reworked.frame .composer (by decide)]
      simp [Composer.reported_stored]
    · exact hlends.of_same rfl rfl rfl rfl rfl rfl
    · simp only [handOver_frame, State.setComposer_tracker]
      rw [htracker]
      rfl
    · simpa using hlowered
    · simp only [handOver_frame, State.setComposer_service, State.setComposer_tracker]
      exact hservice

end Sys2Proof.Machine

/-! PROOFS. The feeder samples of a meter: how overload is counted, and the SHED it asks for (6.10, 8.8). -/

namespace Sys2Proof.Machine

/-! ## Feeder samples (R119, R120, R164) -/

theorem converter_ofByte_some {b : Byte} (h : b.toNat ≤ 3) : ∃ converter, Converter.ofByte b = some converter := by
  have hcodes : b = 0 ∨ b = 1 ∨ b = 2 ∨ b = 3 := by
    simp only [← BitVec.toNat_inj, BitVec.ofNat_eq_ofNat, BitVec.toNat_ofNat]
    omega
  rcases hcodes with rfl | rfl | rfl | rfl <;> exact ⟨_, rfl⟩

/-- In the METER role the sums are those of the heard posts alone (R94). -/
theorem contributions_meter {s t : State} (hs : s.isPost = false) (ht : t.isPost = false) (hpeers : t.peers = s.peers) :
    t.contributions = s.contributions := by
  simp [State.contributions, State.ownContribution, State.peerContributions, hs, ht, hpeers]

theorem exec_feederSample (r : WireReport) (s : State) : exec (.feederSample r) s = .next (receiveReport r s) := rfl

/-- The count of a sample, and whether the meter sheds after it (R119). -/
theorem countSample_parts (w : WorkingCopy) (m : Int) (sh : Share) :
    countSample w m sh = { sh with
      overloadCount :=
        if sh.shedding then sh.overloadCount else if aboveTrip w m then min (sh.overloadCount + 1) w.ntrip else 0
      shedding := sh.shedding || (aboveTrip w m && decide (w.ntrip ≤ sh.overloadCount + 1)) } := by
  unfold countSample
  by_cases hon : sh.shedding = true
  · simp only [hon, if_true, Bool.true_or]
    rw [← hon]
  · have hoff : sh.shedding = false := by simpa using hon
    by_cases habove : aboveTrip w m = true
    · simp [hoff, habove]
    · have hbelow : aboveTrip w m = false := by simpa using habove
      simp only [hoff, hbelow, Bool.false_eq_true, if_false, Bool.false_or, Bool.false_and]

/-- A sample at or below FCAP ends shedding (R120). -/
theorem shedSample_ends {w : WorkingCopy} {m : Int} {s : State} (h : m ≤ w.fcap) :
    shedSample w m s = s.setShare { s.share with shedding := false, overloadCount := 0 } := if_pos h

/-- Above FCAP with no post drawing, no SHED is asked for (R120). -/
theorem shedSample_idle {w : WorkingCopy} {m : Int} {s : State} (h : (w.fcap : Int) < m)
    (hnone : positiveDraw s.contributions = 0) : shedSample w m s = s := by
  rw [shedSample, if_neg (by omega), if_pos hnone]

/-- Above FCAP with posts drawing, a SHED is asked for with the fraction of 6.10 (R120). -/
theorem shedSample_asks {w : WorkingCopy} {m : Int} {s : State} (h : (w.fcap : Int) < m)
    (hdraw : positiveDraw s.contributions ≠ 0) :
    shedSample w m s = requestShed (shedFraction (m - w.fcap).toNat (positiveDraw s.contributions))
      (s.setShare { s.share with
        lastFraction := some (shedFraction (m - w.fcap).toNat (positiveDraw s.contributions)) }) := by
  rw [shedSample, if_neg (by omega), if_neg hdraw]

/-- A SHED asked for waits behind one that is being sent, or is put in hand (R76). -/
theorem requestShed_link {fraction : Nat} {s : State} (hrun : s.link.station = .running) :
    (s.link.transmitting ≠ some .shed → (requestShed fraction s).link = { s.link with
        shedHand := some
          { frame := { station := byteOf s.stationNumber, fraction := wordOfNat fraction }, attempts := 0 } })
      ∧ (s.link.transmitting = some .shed → (requestShed fraction s).link = { s.link with
        shedBehind := some { station := byteOf s.stationNumber, fraction := wordOfNat fraction } }) := by
  refine ⟨fun h => ?_, fun h => ?_⟩ <;> simp [requestShed, hrun, h]

/-- Settles O47: the sample without a working copy, then a meter's by what its count says. -/
theorem feederSampleDetectsOverload : Obligations.FeederSampleDetectsOverload := by
  refine ⟨fun s r c hc hcode hidle => ?_, fun s w r m dpos count f above sheds frame hw hmeter hcode hm hactive hdpos habove
    hsheds hcount hf hframe => ?_⟩
  · obtain ⟨converter, hconverter⟩ := converter_ofByte_some hcode
    have hinactive : s.link.station.active = false := by rcases hidle with h | h <;> rw [h] <;> rfl
    have hexec : exec c s = .next (sampleWithoutCopy r.power.toInt s) := by
      have hreceived : receiveReport r s = sampleWithoutCopy r.power.toInt s := by simp [receiveReport, hconverter, hinactive]
      rcases hc with rfl | rfl
      · rw [exec_feederSample, hreceived]
      · rw [exec_reportReceived, hreceived]
    obtain ⟨hsample, -, hframe⟩ := sampleWithoutCopy_effect r.power.toInt s
    exact ⟨_, hexec, hsample, hframe⟩
  · obtain ⟨converter, hconverter⟩ := converter_ofByte_some hcode
    have hexec := exec_feederSample r s
    rw [receiveReport_taken hconverter (active_of_cases hactive), acceptByRole, hw] at hexec
    simp only [hmeter, reduceCtorEq, if_false, ← hm] at hexec
    have hcounted : countSample w m s.share = { s.share with overloadCount := count, shedding := sheds } := by
      rw [countSample_parts, hcount, hsheds, habove]
      rfl
    have hpost : s.isPost = false := by simp [State.isPost, State.role, hw, hmeter]
    by_cases hrun : s.link.station = .running
    · rw [acceptSample, if_pos hrun, detectOverload, State.setComposer_share, hcounted] at hexec
      generalize hu : (s.setComposer { s.composer with feederSample := some m }).setShare
        { s.share with overloadCount := count, shedding := sheds } = u at hexec
      have hucomposer : u.composer = { s.composer with feederSample := some m } := by rw [← hu]; rfl
      have hushare : u.share = { s.share with overloadCount := count, shedding := sheds } := by rw [← hu]; rfl
      have hulink : u.link = s.link := by rw [← hu]; rfl
      have huframe : unchangedExcept [.composer, .share] s u := by rw [← hu]; exact unchangedExcept_of_same
      have hunumber : u.stationNumber = w.station := by rw [← hu]; exact stationNumber_of_working hw
      have hudraw : positiveDraw u.contributions = dpos := by
        rw [hdpos, ← hu]
        exact congrArg positiveDraw (contributions_meter hpost hpost rfl)
      by_cases hon : sheds = true
      · rw [if_pos hon] at hexec
        refine ⟨_, hexec, by simp [hucomposer], fun h => absurd hrun h, fun _ hoff => absurd hon (by simp [hoff]),
          fun _ _ hlow => ?_, fun _ _ hhigh hidle => ?_, fun _ _ hhigh hdraws => ?_⟩
        · rw [shedSample_ends hlow]
          exact ⟨by rw [State.setShare_share, hushare], unchangedExcept_comp huframe (unchangedExcept_of_same (l := [.share]))
            (fun _ h => h) (by decide)⟩
        · rw [shedSample_idle hhigh (hudraw.trans hidle), hushare, hon]
          exact ⟨rfl, huframe⟩
        · rw [shedSample_asks hhigh (by rw [hudraw]; omega), hudraw,
            show shedFraction (m - w.fcap).toNat dpos = f from hf.symm]
          obtain ⟨hhand, hbehind⟩ := requestShed_link (fraction := f)
            (s := u.setShare { u.share with lastFraction := some f }) (by simpa [hulink] using hrun)
          have hnumber : byteOf (u.setShare { u.share with lastFraction := some f }).stationNumber =
              BitVec.ofNat 8 (min w.station 255) := by rw [← hunumber]; rfl
          simp only [State.setShare_link, hulink, hnumber, wordOfNat] at hhand hbehind
          refine ⟨?_, fun hfree => ?_, fun hsending => ?_, ?_⟩
          · simp [hushare, hon]
          · rw [hhand hfree, hframe]
          · rw [hbehind hsending, hframe]
          · exact unchangedExcept_comp huframe (unchangedExcept_of_same (l := [.share, .link])) (by decide) (by decide)
      · rw [if_neg hon] at hexec
        refine ⟨_, hexec, hucomposer, fun h => absurd hrun h, fun _ hoff => ⟨?_, huframe⟩, fun _ h => absurd h hon,
          fun _ h => absurd h hon, fun _ h => absurd h hon⟩
        have hoff : s.share.shedding = sheds := by
          simp only [hsheds, Bool.or_eq_true, not_or, Bool.not_eq_true] at hon
          simp [hsheds, hon]
        rw [hushare, ← hoff]
    · rw [acceptSample, if_neg hrun] at hexec
      exact ⟨_, hexec, rfl, fun _ => unchangedExcept_of_same, fun h => absurd h hrun, fun h => absurd h hrun,
        fun h => absurd h hrun, fun h => absurd h hrun⟩

end Sys2Proof.Machine

/-! PROOFS. The control period: its clamps, ramp and target, the mode transitions, the demand, and the halts of the
stage faults (8.4 to 8.7). -/

namespace Sys2Proof.Machine

/-! ## The steps of a control period (R155) -/

/-- Steps 2 to 8 of R155, from the state that step 1 leaves. -/
def State.afterSilence (w : WorkingCopy) (s : State) : State :=
  periodPermit (periodSend (periodDither w (periodMode w (periodTarget (periodRamp w (periodClamps s))))))

theorem controlPeriod_eq (w : WorkingCopy) (s : State) : controlPeriod w s = (periodSilence s).afterSilence w := rfl

/-- The composer after steps 2 to 4: the clamps, the ramp and the clamped target (R156, R157). -/
def State.targeted (w : WorkingCopy) (s : State) : Composer :=
  { s.composer with
    upperClamp := s.upperClamp, lowerClamp := -(s.account.offer : Int)
    ramped := rampOf w.ramp s.composer.ramped (min s.share.allowance s.upperClamp)
    target := clampInt (-(s.account.offer : Int)) s.upperClamp
      ((rampOf w.ramp s.composer.ramped (min s.share.allowance s.upperClamp) : Int) - s.share.discharge
        + s.reserve.response) }

theorem periodTarget_eq (w : WorkingCopy) (s : State) :
    periodTarget (periodRamp w (periodClamps s)) = s.setComposer (s.targeted w) := rfl

/-- The mode transitions of a period, the converter apart (R160, R162). -/
def Composer.transition (w : WorkingCopy) (idles : Bool) (c : Composer) : Composer :=
  match c.mode with
  | .standby => if c.target ≠ 0 then c.wakeUp else c
  | .wake => c
  | .run =>
    if idles then
      if w.idle * 1000 ≤ c.idleTimer + 100 then c.standBy else { c with idleTimer := c.idleTimer + 100 }
    else { c with idleTimer := 0 }

theorem periodIdle_periodWake (w : WorkingCopy) (s : State) :
    periodIdle w (periodWake s) = s.setComposer (s.composer.transition w s.idles) := by
  unfold Composer.transition
  cases hmode : s.composer.mode with
  | standby =>
    by_cases htarget : s.composer.target = 0
    · simp [periodWake, periodIdle, hmode, htarget]
    · simp [periodWake, periodIdle, hmode, htarget, Composer.wakeUp]
  | wake => simp [periodWake, periodIdle, hmode]
  | run =>
    cases hidles : s.idles
    · simp [periodWake, periodIdle, hmode, hidles]
    · simp only [periodWake, periodIdle, hmode, hidles, reduceCtorEq, false_and, if_false, if_true]
      split <;> rfl

/-- The mode, the timers and the settle count of the transitions, as the manual's table gives them (R160, R162). -/
theorem Composer.transition_eq {w : WorkingCopy} {idles : Bool} {c : Composer} {mode : StageMode} {idle settle : Nat}
    {wake : Option Nat} (h : (mode, idle, settle, wake) = (match c.mode with
      | .standby =>
        if c.target = 0 then (.standby, c.idleTimer, c.settle, c.wakeTimer) else (.wake, 0, 0, some 0)
      | .wake => (.wake, c.idleTimer, c.settle, c.wakeTimer)
      | .run =>
        if idles then
          if w.idle * 1000 ≤ c.idleTimer + 100 then (.standby, 0, 0, none)
          else (.run, c.idleTimer + 100, c.settle, c.wakeTimer)
        else (.run, 0, c.settle, c.wakeTimer))) :
    c.transition w idles = { c with
      mode := mode, idleTimer := idle, settle := settle, wakeTimer := wake
      timedOut := c.timedOut && !(decide (c.mode = .standby) && decide (c.target ≠ 0)) } := by
  unfold Composer.transition
  cases hmode : c.mode with
  | standby =>
    rw [hmode] at h
    by_cases htarget : c.target = 0
    · simp only [htarget, if_true, Prod.mk.injEq] at h
      obtain ⟨rfl, rfl, rfl, rfl⟩ := h
      simp only [htarget, ne_eq, not_true_eq_false, if_false, decide_false, Bool.and_false, Bool.not_false, Bool.and_true]
      rw [← hmode, ← htarget]
    · simp only [htarget, if_false, Prod.mk.injEq] at h
      obtain ⟨rfl, rfl, rfl, rfl⟩ := h
      simp [htarget, Composer.wakeUp]
  | wake =>
    rw [hmode] at h
    simp only [Prod.mk.injEq] at h
    obtain ⟨rfl, rfl, rfl, rfl⟩ := h
    simp only [reduceCtorEq, decide_false, Bool.false_and, Bool.not_false, Bool.and_true]
    rw [← hmode]
  | run =>
    rw [hmode] at h
    simp only [reduceCtorEq, decide_false, Bool.false_and, Bool.not_false, Bool.and_true]
    cases idles with
    | false =>
      simp only [Bool.false_eq_true, if_false, Prod.mk.injEq] at h
      obtain ⟨rfl, rfl, rfl, rfl⟩ := h
      rw [← hmode]
      rfl
    | true =>
      by_cases hlimit : w.idle * 1000 ≤ c.idleTimer + 100
      · simp only [hlimit, if_true, Prod.mk.injEq] at h
        obtain ⟨rfl, rfl, rfl, rfl⟩ := h
        simp [hlimit, Composer.standBy]
      · simp only [hlimit, if_true, if_false, Prod.mk.injEq] at h
        obtain ⟨rfl, rfl, rfl, rfl⟩ := h
        simp only [hlimit, if_true, if_false]

theorem demandFrame_bytes {value : Int} {mode : StageMode} {code : Byte} (hlow : -32768 ≤ value) (hhigh : value ≤ 32767)
    (hmode : (mode, code) ∈ [(.standby, 0), (.wake, 1), (StageMode.run, (2 : Byte))]) :
    demandFrame value mode =
      sealFrame [0x31, BitVec.ofInt 8 (value % 256), BitVec.ofInt 8 (value / 256), code] := by
  have hcode : byteOf mode.code = code := by
    simp only [List.mem_cons, Prod.mk.injEq, List.not_mem_nil, or_false] at hmode
    rcases hmode with ⟨rfl, rfl⟩ | ⟨rfl, rfl⟩ | ⟨rfl, rfl⟩ <;> rfl
  rw [demandFrame, int16_eq hlow hhigh, hcode]
  rfl

/-- The composer of steps 2 to 5 of a period, before a converter FAULT is looked at (R156, R157, R160). -/
def State.stepped (w : WorkingCopy) (s : State) : Composer :=
  (s.targeted w).transition w (s.setComposer (s.targeted w)).idles

/-- Steps 5 to 8, from the state that the converter's evaluation leaves: what a period composes and sends (R155). -/
theorem afterSilence_effect {w : WorkingCopy} {s e : State} {lower goal out residue : Int} {delivers : Bool}
    (he : e = evaluateConverter (s.setComposer (s.stepped w))) (hlower : lower = -(e.account.offer : Int))
    (hgoal : goal = max lower (s.stepped w).target)
    (hout : (out, residue) = dithered w.qstep lower (s.stepped w).upperClamp goal (s.stepped w).residue)
    (hdelivers : delivers = (s.isPost && s.link.station == .running && e.tracker.readiness.linked
      && (s.stepped w).mode == .run && (s.stepped w).converter == some .ready && (s.stepped w).settle == 0)) :
    (s.afterSilence w).composer = { s.stepped w with
        lowerClamp := lower, target := goal, output := out, residue := if delivers then residue else 0
        demand := if delivers then out else 0, settle := (s.stepped w).settle - 1
        tx := demandFrame (if delivers then out else 0) (s.stepped w).mode }
      ∧ (s.afterSilence w).vehicle = (if e.tracker.readiness.linked then
          { e.vehicle with
            waiting := withoutPermit e.vehicle.waiting
              ++ [.permit e.vehicle.session (if delivers then out else 0)] }
        else e.vehicle)
      ∧ unchangedExcept [.composer, .vehicle] e (s.afterSilence w) := by
  have hcomposer : e.composer = s.stepped w := by simp [he]
  have hpost : e.isPost = s.isPost := by rw [he]; exact isPost_of_same (by simp)
  have hstation : e.link.station = s.link.station := by simp [he]
  have hmode : periodMode w (s.setComposer (s.targeted w)) = e.setComposer
      { s.stepped w with lowerClamp := lower, target := goal } := by
    rw [periodMode, periodIdle_periodWake, State.setComposer_twice, State.setComposer_composer,
      show (s.targeted w).transition w (s.setComposer (s.targeted w)).idles = s.stepped w from rfl, ← he, periodOffer,
      hcomposer, hlower, hgoal, hlower]
  have hnow : (e.setComposer { s.stepped w with lowerClamp := lower, target := goal }).delivers = delivers := by
    rw [hdelivers, ← hpost, ← hstation]
    rfl
  have hdithered : periodDither w (e.setComposer { s.stepped w with lowerClamp := lower, target := goal }) =
      e.setComposer { s.stepped w with
        lowerClamp := lower, target := goal, output := out, residue := if delivers then residue else 0
        demand := if delivers then out else 0, settle := (s.stepped w).settle - 1 } := by
    simp only [periodDither, hnow, State.setComposer_composer, ← hout]
    cases hd : delivers with
    | false => rfl
    | true =>
      have hsettled : (s.stepped w).settle = 0 := by
        rw [hd] at hdelivers
        simpa using (Bool.and_eq_true_iff.mp hdelivers.symm).2
      simp [hsettled]
  have hall : s.afterSilence w = periodPermit (e.setComposer { s.stepped w with
      lowerClamp := lower, target := goal, output := out, residue := if delivers then residue else 0
      demand := if delivers then out else 0, settle := (s.stepped w).settle - 1
      tx := demandFrame (if delivers then out else 0) (s.stepped w).mode }) := by
    rw [State.afterSilence, periodTarget_eq, hmode, hdithered]
    rfl
  rw [hall]
  refine ⟨by simp, ?_, unchangedExcept_of_same⟩
  rw [periodPermit]
  by_cases hlinked : e.tracker.readiness.linked = true
  · simp [hlinked]
  · simp [hlinked]

theorem State.Halts.of_same {r : HaltReason} {s t s' t' : State} (h : s.Halts r t)
    (before : s'.vehicle = s.vehicle ∧ s'.tracker = s.tracker ∧ s'.share = s.share ∧ s'.account = s.account
      ∧ s'.service = s.service)
    (after : t'.vehicle = t.vehicle ∧ t'.tracker = t.tracker ∧ t'.share = t.share ∧ t'.account = t.account
      ∧ t'.service = t.service) : s'.Halts r t' := by
  obtain ⟨hvehicle, htracker, hshare, haccount, hservice⟩ := before
  obtain ⟨kvehicle, ktracker, kshare, kaccount, kservice⟩ := after
  refine ⟨h.halted.of_same ⟨hvehicle, htracker, hshare⟩ ⟨kvehicle, ktracker, kshare⟩, ?_, ?_⟩
  · rw [kaccount, haccount, h.account]
  · rw [kservice, hservice, h.service]

/-! ## The period of a post whose converter answers -/

theorem exec_controlPeriod {s : State} {w : WorkingCopy} (hw : s.store.working = some w) (hpost : w.role = .post)
    (hactive : s.link.station.active = true) : exec .controlPeriod s = .next (controlPeriod w s) := by
  show Host.Outcome.next (controlPeriodTaken s) = _
  simp [controlPeriodTaken, hw, State.composes, isPost_of_role hw hpost, hactive]

/-- Step 1 of R155 at a session that lives with fewer than five silent periods, or at no session: the count and the draw
alone. -/
theorem periodSilence_eq {s : State} {silent : Nat} (hsilent : silent = bump 255 s.composer.silentCount)
    (h : s.composer.silentCount < 4 ∨ s.tracker.readiness = .vacant ∨ s.tracker.readiness = .halted) :
    periodSilence s = s.setComposer { s.composer with
      silentCount := silent, draw := if 5 ≤ silent then 0 else s.composer.draw } := by
  rw [periodSilence, evaluateSilence, ← hsilent, State.setComposer_composer]
  by_cases hfive : 5 ≤ silent
  · have hdead : ¬(s.tracker.readiness = .linking ∨ s.tracker.readiness.linked = true) := by
      have hmany : ¬ s.composer.silentCount < 4 := by
        intro hfew
        rw [hsilent, bump_eq (by omega)] at hfive
        omega
      rcases h.resolve_left hmany with h | h <;> rw [h] <;> decide
    rw [if_pos hfive, if_pos hfive]
    exact stageFault_dead hdead
  · rw [if_neg hfive, if_neg hfive]

/-- A period sends nothing in LOADING, in UNCONFIGURED and in the METER role (R152, R164). -/
theorem composes_false {s : State}
    (h : s.link.station = .loading ∨ s.link.station = .unconfigured ∨ s.isMeter = true) : s.composes = false := by
  rcases h with h | h | h
  · simp [State.composes, h, Station.active]
  · simp [State.composes, h, Station.active]
  · have hpost : s.isPost = false := by
      simp only [State.isMeter, beq_iff_eq] at h
      simp [State.isPost, h]
    simp [State.composes, hpost]

/-- Settles O49: the count and the draw of step 1, then `afterSilence_effect`. -/
theorem controlPeriodComposesTheDemand : Obligations.ControlPeriodComposesTheDemand := by
  refine ⟨fun value mode code body hlow hhigh hmode hbody => ?_, fun s hidle => ?_, ?_⟩
  · rw [demandFrame_bytes hlow hhigh hmode, hbody]
    rfl
  · show Host.Outcome.next (controlPeriodTaken s) = _
    cases hw : s.store.working <;> simp [controlPeriodTaken, hw, composes_false hidle]
  intro s w upper lower target goal out residue idles delivers faulted silent ramped idle settle mode wake hw hpost hactive
    hanswers hfaulted hsilent hupper hramped htarget hidles hmode hdelivers hlower hgoal hout
  have hexec := exec_controlPeriod hw hpost (active_of_cases hactive)
  rw [controlPeriod_eq, periodSilence_eq hsilent hanswers] at hexec
  generalize hu : s.setComposer { s.composer with
    silentCount := silent, draw := if 5 ≤ silent then 0 else s.composer.draw } = u at hexec
  have hclamp : u.upperClamp = upper := by rw [hupper, ← hu]; rfl
  have hstepped : u.stepped w = { s.composer with
      silentCount := silent, draw := if 5 ≤ silent then 0 else s.composer.draw
      upperClamp := upper, lowerClamp := -(s.account.offer : Int), ramped := ramped, target := target, mode := mode
      idleTimer := idle, settle := settle, wakeTimer := wake
      timedOut := s.composer.timedOut && !(decide (s.composer.mode = .standby) && decide (target ≠ 0)) } := by
    have htargeted : u.targeted w = { s.composer with
        silentCount := silent, draw := if 5 ≤ silent then 0 else s.composer.draw
        upperClamp := upper, lowerClamp := -(s.account.offer : Int), ramped := ramped, target := target } := by
      rw [State.targeted, hclamp, htarget, hramped, ← hu]
      rfl
    have hidlesNow : (u.setComposer (u.targeted w)).idles = idles := by
      rw [hidles, htargeted, ← hu]
      simp only [State.idles, State.heating]
      rfl
    rw [State.stepped, hidlesNow, htargeted]
    exact Composer.transition_eq hmode
  have hconverter : (u.setComposer (u.stepped w)).composer.converter = s.composer.converter := by
    rw [State.setComposer_composer, hstepped]
  have htracker : (u.setComposer (u.stepped w)).tracker = s.tracker := by rw [← hu]; rfl
  have hstored : unchangedExcept [.composer] s (u.setComposer (u.stepped w)) := by
    rw [← hu]; exact unchangedExcept_of_same
  have hupost : u.isPost = true := by rw [← hu]; exact isPost_of_role hw hpost
  have hustation : u.link.station = s.link.station := by rw [← hu]; rfl
  have heffect := fun (e : State) (he : e = evaluateConverter (u.setComposer (u.stepped w)))
      (hoffer : lower = -(e.account.offer : Int))
      (hlinked : s.composer.converter = some .ready → e.tracker.readiness = s.tracker.readiness) =>
    afterSilence_effect (w := w) (s := u) (e := e) (lower := lower) (goal := goal) (out := out) (residue := residue)
      (delivers := delivers) he hoffer (by rw [hgoal, hstepped]) (by rw [hout, hstepped]) (by
        rw [hdelivers, hupost, hustation, hstepped]
        by_cases hready : s.composer.converter = some .ready
        · simp [hready, hlinked hready, beq_eq_decide]
        · simp [hready])
  cases hfault : faulted with
  | false =>
    rw [hfault] at hfaulted hlower
    have hquiet : evaluateConverter (u.setComposer (u.stepped w)) = u.setComposer (u.stepped w) := by
      refine evaluateConverter_other ?_
      rw [hconverter, htracker]
      have hnone : s.composer.converter = some .fault →
          s.tracker.readiness.linked = false ∧ ¬ s.tracker.readiness = .linking := by simpa using hfaulted.symm
      exact (imp_iff_not_or.mp hnone).imp_right fun ⟨hunlinked, hnot⟩ => by simp [hunlinked, hnot]
    obtain ⟨hcomposer, hvehicle, hframe⟩ := heffect _ hquiet.symm (by rw [hlower, ← hu]; rfl) (fun _ => by rw [htracker])
    refine ⟨_, hexec, ?_, fun _ => ⟨?_, unchangedExcept_comp hstored hframe (by decide) (fun _ h => h)⟩,
      fun h => absurd h (by decide)⟩
    · rw [hcomposer, hstepped]
    · rw [hvehicle, htracker, ← hu]
      rfl
  | true =>
    rw [hfault] at hfaulted hlower
    obtain ⟨hfaultNow, hlive⟩ : s.composer.converter = some .fault
        ∧ (s.tracker.readiness = .linking ∨ s.tracker.readiness.linked = true) := by
      simpa [or_comm] using hfaulted.symm
    have hlive' : (u.setComposer (u.stepped w)).tracker.readiness = .linking
        ∨ (u.setComposer (u.stepped w)).tracker.readiness.linked = true := by rw [htracker]; exact hlive
    have hhalts : s.Halts .stageFault (evaluateConverter (u.setComposer (u.stepped w))) := by
      rw [evaluateConverter_halts (hconverter.trans hfaultNow) hlive']
      exact (halt_halts (r := .stageFault) (live_ne_halted hlive')).of_same (by rw [← hu]; exact ⟨rfl, rfl, rfl, rfl, rfl⟩)
        ⟨rfl, rfl, rfl, rfl, rfl⟩
    obtain ⟨hcomposer, hvehicle, hframe⟩ := heffect _ rfl (by rw [hlower, hhalts.account]; rfl)
      (fun hready => absurd (hfaultNow.symm.trans hready) (by decide))
    have heframe : unchangedExcept [.vehicle, .tracker, .account, .share, .service] (u.setComposer (u.stepped w))
        (evaluateConverter (u.setComposer (u.stepped w))) := unchangedExcept_of_same
    generalize evaluateConverter (u.setComposer (u.stepped w)) = e at *
    have hdead : e.tracker.readiness.linked = false := by rw [hhalts.halted.tracker]; rfl
    refine ⟨_, hexec, ?_, fun h => absurd h (by decide), fun _ => ⟨?_, ?_, ?_⟩⟩
    · rw [hcomposer, hstepped]
    · exact hhalts.of_same ⟨rfl, rfl, rfl, rfl, rfl⟩ ⟨by rw [hvehicle, hdead]; rfl, hframe .tracker (by decide),
        hframe .share (by decide), hframe .account (by decide), hframe .service (by decide)⟩
    · rw [hdelivers, hfaultNow]
      simp
    · exact unchangedExcept_comp (unchangedExcept_comp hstored heframe (n := [.composer, .vehicle, .tracker, .account,
        .share, .service]) (by decide) (by decide)) hframe (fun _ h => h) (by decide)

end Sys2Proof.Machine

/-! PROOFS. The stage faults: a silent stage, a converter FAULT and a wake that runs out, and the idle limit (8.6, 8.7). -/

namespace Sys2Proof.Machine

/-! ## A stage fault found (R163) -/

/-- What a stage fault does with the composer `c` in place: a halt to a session, and nothing else to none (R163). -/
theorem stageFault_effect (r : HaltReason) (c : Composer) (s : State) :
    (stageFault r (s.setComposer c)).composer = c
      ∧ (s.tracker.readiness.linked = true ∨ s.tracker.readiness = .linking →
          s.Halts r (stageFault r (s.setComposer c))
          ∧ unchangedExcept [.composer, .vehicle, .tracker, .account, .share, .service] s
              (stageFault r (s.setComposer c)))
      ∧ (s.tracker.readiness = .vacant ∨ s.tracker.readiness = .halted →
          unchangedExcept [.composer] s (stageFault r (s.setComposer c))) := by
  refine ⟨by simp, fun hlive => ⟨?_, unchangedExcept_of_same⟩, fun hdead => ?_⟩
  · rw [stageFault_live (s := s.setComposer c) hlive.symm]
    exact (halt_halts (s := s.setComposer c) (live_ne_halted hlive.symm)).of_same ⟨rfl, rfl, rfl, rfl, rfl⟩
      ⟨rfl, rfl, rfl, rfl, rfl⟩
  · rw [stageFault_dead]
    · exact unchangedExcept_of_same
    · rw [State.setComposer_tracker]
      rcases hdead with h | h <;> rw [h] <;> decide

theorem exec_stageSilent {s : State} (h : s.composes = true) : exec .stageSilent s = .next (evaluateSilence s) := by
  show Host.Outcome.next (if s.composes then evaluateSilence s else s) = _
  rw [if_pos h]

/-! ## A silent stage (R155 step 1, R163) -/

/-- After a halt nothing is offered, allowed or drawn: every clamp and the target are 0 (R156, R157, assumption 41). -/
theorem targeted_halted {w : WorkingCopy} {s : State} (hlinked : s.tracker.readiness.linked = false)
    (hoffer : s.account.offer = 0) (hallowance : s.share.allowance = 0) :
    s.targeted w = { s.composer with upperClamp := 0, lowerClamp := 0, ramped := 0, target := 0 } := by
  have hclamp : s.upperClamp = 0 := by simp [State.upperClamp, State.accepting, hlinked]
  have hramp : rampOf w.ramp s.composer.ramped 0 = 0 := by simp [rampOf]
  have htarget : ∀ x : Int, clampInt 0 0 x = 0 := fun x => by unfold clampInt; omega
  rw [State.targeted, hclamp, hoffer, hallowance]
  simp [hramp, htarget]

theorem dithered_zero (q : Nat) (residue : Int) : (dithered q 0 0 0 residue).1 = 0 := by
  simp only [dithered, demandLow, demandHigh, Int.neg_zero, Int.zero_ediv, Int.mul_zero, Int.zero_add]
  split
  · rfl
  split
  · rfl
  · omega

/-- A silent stage halts a session before the rest of the period is worked out (R155 step 1, R163). -/
theorem periodSilence_halts {s : State} (hmany : 4 ≤ s.composer.silentCount) (htop : s.composer.silentCount ≤ 255)
    (hlive : s.tracker.readiness = .linking ∨ s.tracker.readiness.linked = true) :
    periodSilence s = halt .stageSilent (s.setComposer { s.composer with
      silentCount := min 255 (s.composer.silentCount + 1), draw := 0 }) := by
  have hcount : bump 255 s.composer.silentCount = min 255 (s.composer.silentCount + 1) := bump_eq htop
  rw [periodSilence, evaluateSilence, State.setComposer_composer, hcount, if_pos (show 5 ≤ min 255 _ by omega)]
  exact stageFault_live hlive

/-- The rest of a period in which the stage has been found silent: the composer is brought to rest (assumption 41). -/
theorem afterSilence_silent {w : WorkingCopy} {s u : State} {c : Composer} {mode : StageMode} {idle settle : Nat}
    {wake : Option Nat} (hu : s.Halts .stageSilent u) (hc : u.composer = c)
    (hmode : (mode, idle, settle, wake) =
      (if c.mode = .run then
        (if w.idle * 1000 ≤ c.idleTimer + 100 then (StageMode.standby, 0, 0, (none : Option Nat))
        else (.run, c.idleTimer + 100, c.settle, c.wakeTimer))
      else (c.mode, c.idleTimer, c.settle, c.wakeTimer))) :
    (u.afterSilence w).composer = { c with
        upperClamp := 0, lowerClamp := 0, ramped := 0, target := 0, mode := mode, idleTimer := idle, wakeTimer := wake
        settle := settle - 1, output := 0, residue := 0, demand := 0, tx := demandFrame 0 mode }
      ∧ unchangedExcept [.composer] u (u.afterSilence w) := by
  have htracker := hu.halted.tracker
  have hunlinked : u.tracker.readiness.linked = false := by rw [htracker]; rfl
  have htargeted := targeted_halted (w := w) hunlinked (by rw [hu.account]) hu.halted.allowance
  have hidles : (u.setComposer (u.targeted w)).idles = true := by
    have haccepting : (u.setComposer (u.targeted w)).accepting = false := by simp [State.accepting, hunlinked]
    have hheating : (u.setComposer (u.targeted w)).heating = false := by simp [State.heating, htracker]
    rw [State.idles, haccepting, hheating, htargeted]
    rfl
  have hstepped : u.stepped w = { c with
      upperClamp := 0, lowerClamp := 0, ramped := 0, target := 0, mode := mode, idleTimer := idle, settle := settle
      wakeTimer := wake } := by
    rw [State.stepped, hidles, htargeted, hc, Composer.transition_eq (mode := mode) (idle := idle) (settle := settle)
      (wake := wake)]
    · simp
    · rw [hmode]
      cases c.mode <;> rfl
  have hquiet : u.setComposer (u.stepped w) = evaluateConverter (u.setComposer (u.stepped w)) := by
    refine (evaluateConverter_other (.inr ?_)).symm
    rw [State.setComposer_tracker, htracker]
    simp [Readiness.linked]
  obtain ⟨hcomposer, hvehicle, hframe⟩ := afterSilence_effect (w := w) (lower := 0) (goal := 0) (delivers := false)
    (out := 0) (residue := (dithered w.qstep 0 0 0 (u.stepped w).residue).2) hquiet (by simp [hu.account])
    (by simp [hstepped]) (by simp [hstepped, Prod.ext_iff, dithered_zero]) (by simp [hunlinked])
  refine ⟨by rw [hcomposer, hstepped]; rfl, ?_⟩
  have hstored : unchangedExcept [.composer] u (u.setComposer (u.stepped w)) := unchangedExcept_of_same
  have hkept : (u.afterSilence w).vehicle = u.vehicle := by rw [hvehicle]; simp [hunlinked]
  exact unchangedExcept_drop (unchangedExcept_comp hstored hframe (n := [.vehicle, .composer]) (by decide) (by decide)) hkept

/-! ## Periods that deliver nothing (R159) -/

theorem readiness_dead {r : Readiness} (h : ¬(r.linked = true ∨ r = .linking)) : r = .vacant ∨ r = .halted := by
  cases r <;> simp_all [Readiness.linked]

theorem Composer.transition_frame (w : WorkingCopy) (idles : Bool) (c : Composer) :
    (c.transition w idles).draw = c.draw ∧ (c.transition w idles).silentCount = c.silentCount
      ∧ (c.transition w idles).converter = c.converter := by
  unfold Composer.transition
  repeat' split
  all_goals exact ⟨rfl, rfl, rfl⟩

/-- A period that ends without a linked session delivers nothing (R159). -/
theorem afterSilence_unlinked {w : WorkingCopy} {s e : State} (he : e = evaluateConverter (s.setComposer (s.stepped w)))
    (hlinked : e.tracker.readiness.linked = false) :
    (s.afterSilence w).composer.demand = 0 ∧ (s.afterSilence w).composer.draw = s.composer.draw
      ∧ (s.afterSilence w).composer.silentCount = s.composer.silentCount
      ∧ (s.afterSilence w).composer.lowerClamp = -(e.account.offer : Int)
      ∧ -(e.account.offer : Int) ≤ (s.afterSilence w).composer.target
      ∧ unchangedExcept [.composer] e (s.afterSilence w) := by
  obtain ⟨hcomposer, hvehicle, hframe⟩ := afterSilence_effect (w := w) (delivers := false) he rfl rfl rfl (by simp [hlinked])
  have hkept : (s.afterSilence w).vehicle = e.vehicle := by rw [hvehicle]; simp [hlinked]
  obtain ⟨hdraw, hsilent, -⟩ := Composer.transition_frame w (s.setComposer (s.targeted w)).idles (s.targeted w)
  have hframe' : unchangedExcept [.vehicle, .composer] e (s.afterSilence w) := unchangedExcept_mono hframe (by decide)
  rw [hcomposer]
  exact ⟨rfl, hdraw, hsilent, rfl, le_max_left _ _, unchangedExcept_drop hframe' hkept⟩

/-- The state after step 1 of a period with an answering stage, and the composer in place of step 5. -/
theorem exec_controlPeriod_answered {s : State} {w : WorkingCopy} {silent : Nat} (hw : s.store.working = some w)
    (hpost : w.role = .post) (hactive : s.link.station.active = true)
    (hsilent : silent = bump 255 s.composer.silentCount)
    (h : s.composer.silentCount < 4 ∨ s.tracker.readiness = .vacant ∨ s.tracker.readiness = .halted) :
    exec .controlPeriod s = .next ((s.setComposer { s.composer with
      silentCount := silent, draw := if 5 ≤ silent then 0 else s.composer.draw }).afterSilence w) := by
  rw [exec_controlPeriod hw hpost hactive, controlPeriod_eq, periodSilence_eq hsilent h]

/-- A period without a session: the count and the draw, and a demand of 0. -/
theorem controlPeriod_dead {s : State} {w : WorkingCopy} {silent : Nat} (hw : s.store.working = some w)
    (hpost : w.role = .post) (hactive : s.link.station.active = true)
    (hsilent : silent = bump 255 s.composer.silentCount)
    (hdead : s.tracker.readiness = .vacant ∨ s.tracker.readiness = .halted) :
    ∃ t, exec .controlPeriod s = .next t ∧ t.composer.draw = (if 5 ≤ silent then 0 else s.composer.draw)
      ∧ t.composer.demand = 0 ∧ t.composer.silentCount = silent ∧ unchangedExcept [.composer] s t := by
  refine ⟨_, exec_controlPeriod_answered hw hpost hactive hsilent (.inr hdead), ?_⟩
  generalize hu : s.setComposer { s.composer with
    silentCount := silent, draw := if 5 ≤ silent then 0 else s.composer.draw } = u
  have htracker : (u.setComposer (u.stepped w)).tracker = s.tracker := by rw [← hu]; rfl
  have hquiet : u.setComposer (u.stepped w) = evaluateConverter (u.setComposer (u.stepped w)) := by
    refine (evaluateConverter_other (.inr ?_)).symm
    rw [htracker]
    rcases hdead with h | h <;> rw [h] <;> decide
  obtain ⟨hdemand, hdraw, hcount, -, -, hframe⟩ := afterSilence_unlinked hquiet
    (by rw [htracker]; rcases hdead with h | h <;> rw [h] <;> rfl)
  have hstored : unchangedExcept [.composer] s (u.setComposer (u.stepped w)) := by
    rw [← hu]; exact unchangedExcept_of_same
  refine ⟨?_, hdemand, ?_, unchangedExcept_trans hstored hframe⟩
  · rw [hdraw, ← hu]; rfl
  · rw [hcount, ← hu]; rfl

/-- A period with the converter in FAULT halts a session at step 5 (R163). -/
theorem controlPeriod_faulted {s : State} {w : WorkingCopy} (hw : s.store.working = some w) (hpost : w.role = .post)
    (hactive : s.link.station.active = true) (hfew : s.composer.silentCount < 4)
    (hfault : s.composer.converter = some .fault)
    (hlive : s.tracker.readiness.linked = true ∨ s.tracker.readiness = .linking) :
    ∃ t, exec .controlPeriod s = .next t ∧ s.Halts .stageFault t ∧ t.composer.demand = 0 ∧ t.composer.lowerClamp = 0
      ∧ 0 ≤ t.composer.target
      ∧ unchangedExcept [.composer, .vehicle, .tracker, .account, .share, .service] s t := by
  refine ⟨_, exec_controlPeriod_answered hw hpost hactive rfl (.inl hfew), ?_⟩
  generalize hu : s.setComposer _ = u
  have htracker : (u.setComposer (u.stepped w)).tracker = s.tracker := by rw [← hu]; rfl
  have hconverter : (u.setComposer (u.stepped w)).composer.converter = some .fault := by
    rw [State.setComposer_composer, State.stepped, (Composer.transition_frame ..).2.2, ← hu]
    exact hfault
  have hliveNow := hlive.symm
  rw [← htracker] at hliveNow
  have hhalts := halt_halts (r := .stageFault) (live_ne_halted hliveNow)
  rw [← evaluateConverter_halts hconverter hliveNow] at hhalts
  have hs : s.Halts .stageFault (evaluateConverter (u.setComposer (u.stepped w))) :=
    hhalts.of_same (by rw [← hu]; exact ⟨rfl, rfl, rfl, rfl, rfl⟩) ⟨rfl, rfl, rfl, rfl, rfl⟩
  have heframe : unchangedExcept [.composer, .vehicle, .tracker, .account, .share, .service] s
      (evaluateConverter (u.setComposer (u.stepped w))) := by rw [← hu]; exact unchangedExcept_of_same
  obtain ⟨hdemand, -, -, hlower, htarget, hframe⟩ := afterSilence_unlinked (w := w) (s := u) rfl
    (by rw [hs.halted.tracker]; rfl)
  rw [hs.account] at hlower htarget
  exact ⟨hs.of_same ⟨rfl, rfl, rfl, rfl, rfl⟩ ⟨hframe .vehicle (by decide), hframe .tracker (by decide),
      hframe .share (by decide), hframe .account (by decide), hframe .service (by decide)⟩, hdemand, hlower, htarget,
    unchangedExcept_comp heframe hframe (fun _ h => h) (by decide)⟩

/-- Settles O50: a silent stage by `afterSilence_silent`, the other periods by `afterSilence_unlinked`, the commands by
what `stageFault` does. -/
theorem stageFaultsHaltTheSession : Obligations.StageFaultsHaltTheSession := by
  refine ⟨fun s hidle => ?_, fun s w hw hpost hactive => ?_⟩
  · have hnone := composes_false hidle
    constructor
    · show Host.Outcome.next (if s.composes then evaluateSilence s else s) = _
      simp [hnone]
    · show Host.Outcome.next (idleExpired s) = _
      cases hw : s.store.working <;> simp [idleExpired, hw, hnone]
  have hcomposes : s.composes = true := by simp [State.composes, isPost_of_role hw hpost, active_of_cases hactive]
  refine ⟨fun hmany htop => ?_, fun hfew => ?_, fun hfive => ?_, fun hfault hfew hlive => ?_, fun hlimit => ?_, fun hnot => ?_,
    fun hrun hlimit => ?_, fun hnot => ?_⟩
  · have hcount : bump 255 s.composer.silentCount = min 255 (s.composer.silentCount + 1) := bump_eq htop
    by_cases hlive : s.tracker.readiness.linked = true ∨ s.tracker.readiness = .linking
    · have hexec := exec_controlPeriod hw hpost (active_of_cases hactive)
      rw [controlPeriod_eq, periodSilence_halts hmany htop hlive.symm] at hexec
      have hhalts := halt_halts (r := .stageSilent) (s := s.setComposer { s.composer with
        silentCount := min 255 (s.composer.silentCount + 1), draw := 0 }) (live_ne_halted hlive.symm)
      generalize hu : halt .stageSilent (s.setComposer _) = u at hexec hhalts
      have huframe : unchangedExcept [.composer, .vehicle, .tracker, .account, .share, .service] s u := by
        rw [← hu]; exact unchangedExcept_of_same
      have hucomposer : u.composer = { s.composer with
          silentCount := min 255 (s.composer.silentCount + 1), draw := 0 } := by rw [← hu]; simp
      have hrest := fun mode idle settle wake =>
        afterSilence_silent (w := w) (mode := mode) (idle := idle) (settle := settle) (wake := wake) hhalts hucomposer
      obtain ⟨hcomposer, hframe⟩ := hrest _ _ _ _ rfl
      refine ⟨_, hexec, by rw [hcomposer], by rw [hcomposer], by rw [hcomposer],
        unchangedExcept_comp huframe hframe (fun _ h => h) (by decide), fun _ => ⟨?_, fun mode idle settle wake hmode => ?_⟩⟩
      · exact hhalts.of_same ⟨rfl, rfl, rfl, rfl, rfl⟩ ⟨hframe .vehicle (by decide), hframe .tracker (by decide),
          hframe .share (by decide), hframe .account (by decide), hframe .service (by decide)⟩
      · exact (hrest mode idle settle wake hmode).1
    · obtain ⟨t, hexec, hdraw, hdemand, hsilent, hframe⟩ :=
        controlPeriod_dead hw hpost (active_of_cases hactive) hcount.symm (readiness_dead hlive)
      rw [if_pos (by omega)] at hdraw
      exact ⟨t, hexec, hdraw, hdemand, hsilent, unchangedExcept_mono hframe (by decide), fun h => absurd h hlive⟩
  · rw [exec_stageSilent hcomposes, evaluateSilence, if_neg (by omega)]
  · have hexec := exec_stageSilent hcomposes
    rw [evaluateSilence, if_pos hfive] at hexec
    obtain ⟨hcomposer, hlive, hdead⟩ := stageFault_effect .stageSilent { s.composer with draw := 0 } s
    exact ⟨_, hexec, hcomposer, hlive, hdead⟩
  · exact controlPeriod_faulted hw hpost (active_of_cases hactive) hfew hfault hlive
  · have hexec : exec .wakeTimerExpiry s = .next (stageFault .stageTimeout (s.setComposer s.composer.timeOut)) := by
      show Host.Outcome.next (wakeExpired s) = _
      exact congrArg _ (if_pos hlimit)
    obtain ⟨hcomposer, hlive, hdead⟩ := stageFault_effect .stageTimeout s.composer.timeOut s
    exact ⟨_, hexec, hcomposer, hlive, hdead⟩
  · show Host.Outcome.next (wakeExpired s) = _
    exact congrArg _ (if_neg hnot)
  · have hexec : exec .idleTimerExpiry s = .next (s.setComposer s.composer.standBy) := by
      show Host.Outcome.next (idleExpired s) = _
      simp [idleExpired, hw, hcomposes, hrun, hlimit]
    exact ⟨_, hexec, rfl, unchangedExcept_of_same⟩
  · have hcond : (s.composes && s.composer.mode == .run && decide (w.idle * 1000 ≤ s.composer.idleTimer)) = false := by
      rcases hnot with h | h <;> simp [h]
    show Host.Outcome.next (idleExpired s) = _
    simp [idleExpired, hw, hcond]

end Sys2Proof.Machine

/-! PROOFS. The encodings: the CRC bit by bit, the frames as they are laid out, and what is read out of them (10.4 to 10.9). -/

namespace Sys2Proof.Machine

/-! ## The CRC (R185) -/

/-- One step of the register on one bit of the message (R185). -/
def crcBit (crc : Word) (bit : Bool) : Word := if crc.msb ^^ bit then (crc <<< 1) ^^^ 0x1021#16 else crc <<< 1

/-- A shift with a message ahead in the register is a step on its topmost bit, the rest of the message one place up. -/
theorem crcShift_xor (crc ahead : Word) : crcShift (crc ^^^ ahead) = crcBit crc ahead.msb ^^^ (ahead <<< 1) := by
  have hmsb : (crc ^^^ ahead).msb = (crc.msb ^^ ahead.msb) := BitVec.msb_xor
  rw [crcShift, crcBit, hmsb, BitVec.shiftLeft_xor_distrib]
  split
  · rw [BitVec.xor_assoc, BitVec.xor_comm (ahead <<< 1), ← BitVec.xor_assoc]
  · rfl

theorem crcShifts_xor (n : Nat) (crc ahead : Word) :
    crcShifts n (crc ^^^ ahead) =
      ((List.range n).map fun i => ahead.getMsbD i).foldl crcBit crc ^^^ (ahead <<< n) := by
  induction n generalizing crc ahead with
  | zero => simp [crcShifts]
  | succ n ih =>
    have hbits : (List.range n).map (fun i => (ahead <<< 1).getMsbD i) =
        (List.range n).map fun i => ahead.getMsbD (i + 1) := by
      refine List.map_congr_left fun i _ => ?_
      rw [BitVec.getMsbD_shiftLeft, Nat.add_comm]
    rw [crcShifts, crcShift_xor, ih, hbits, List.range_succ_eq_map, List.map_cons, List.foldl_cons, List.map_map,
      BitVec.msb_eq_getMsbD_zero, ← BitVec.shiftLeft_add, Nat.add_comm 1 n]
    rfl

/-- A byte is taken bit by bit, most significant first (R185). -/
theorem crcByte_eq (crc : Word) (b : Byte) :
    crcByte crc b = ((List.range 8).map fun i => b.getLsbD (7 - i)).foldl crcBit crc := by
  have hgone : b.setWidth 16 <<< 8 <<< 8 = (0 : Word) := by
    rw [← BitVec.shiftLeft_add]
    exact BitVec.shiftLeft_eq_zero (by omega)
  have hbits : ((List.range 8).map fun i => (b.setWidth 16 <<< 8).getMsbD i) =
      (List.range 8).map fun i => b.getLsbD (7 - i) := by
    refine List.map_congr_left fun i hi => ?_
    have hi8 : i < 8 := List.mem_range.mp hi
    rw [BitVec.getMsbD_eq_getLsbD, BitVec.getLsbD_shiftLeft, BitVec.getLsbD_setWidth]
    have h1 : 16 - 1 - i - 8 = 7 - i := by omega
    have h2 : ¬ 16 - 1 - i < 8 := by omega
    have h3 : 16 - 1 - i < 16 := by omega
    have h4 : 7 - i < 16 := by omega
    simp [h1, h2, h3, h4]
    omega
  rw [crcByte, crcShifts_xor, hgone, hbits]
  exact BitVec.xor_zero

theorem crc16_eq (bytes : List Byte) :
    crc16 bytes = (bytes.flatMap fun b => (List.range 8).map fun i => b.getLsbD (7 - i)).foldl crcBit 0xFFFF#16 := by
  rw [crc16, List.foldl_flatMap]
  exact congrArg (fun g => List.foldl g 0xFFFF#16 bytes) (funext fun crc => funext fun b => crcByte_eq crc b)

/-- A register that takes the bits of a message in turn ends as the fold of its steps. -/
theorem register_eq_foldl {register : Nat → Word} {bits : List Bool}
    (h : ∀ i, register (i + 1) =
      if (register i).getLsbD 15 ^^ bits.getD i false then (register i <<< 1) ^^^ 0x1021#16 else register i <<< 1)
    (n : Nat) (hn : n ≤ bits.length) : register n = (bits.take n).foldl crcBit (register 0) := by
  induction n with
  | zero => simp
  | succ n ih =>
    have hbit : bits.getD n false = bits[n] := List.getD_eq_getElem _ _ (by omega)
    rw [h, ih (by omega), hbit, List.take_succ_eq_append_getElem (by omega), List.foldl_append, List.foldl_cons,
      List.foldl_nil, crcBit, BitVec.msb_eq_getLsbD_last]

/-! ## Frames (10.4 to 10.7) -/

theorem unsealFrame_iff (frame bytes : List Byte) : unsealFrame frame = some bytes ↔ bytes ≠ [] ∧ frame = sealFrame bytes := by
  constructor
  · intro h
    unfold unsealFrame at h
    split at h
    · exact absurd h (by simp)
    next hlength =>
    split at h
    next hsealed =>
      obtain rfl : frame.take (frame.length - 2) = bytes := by simpa using h
      refine ⟨fun hnil => ?_, hsealed⟩
      have hzero := congrArg List.length hnil
      simp only [List.length_take, List.length_nil] at hzero
      omega
    · exact absurd h (by simp)
  · rintro ⟨hne, rfl⟩
    exact unsealFrame_sealFrame bytes hne

theorem cardOf_cardBytes (c : WireCard) : cardOf (cardBytes c) = some c := by
  simp only [cardBytes, bytesOfWord, List.cons_append, List.nil_append, cardOf, wordOfBytes_bytes]

theorem identOf_identBytes (id : VehicleId) (c : WireCard) : identOf (id.toList ++ cardBytes c) = some (id, c) := by
  obtain ⟨⟨l⟩, hl⟩ := id
  match l, hl with
  | [a, b, d, e, f, g], _ =>
    have hlist : (⟨⟨[a, b, d, e, f, g]⟩, rfl⟩ : VehicleId).toList = [a, b, d, e, f, g] := rfl
    rw [hlist]
    simp only [List.cons_append, List.nil_append, identOf, cardOf_cardBytes, Option.map_some]

theorem statusOf_statusBytes (k : WireStatus) : statusOf (statusBytes k) = some k := by
  simp only [statusBytes, bytesOfWord, List.cons_append, List.nil_append, statusOf, wordOfBytes_bytes]

theorem reportPayloadOf_reportBytes (r : WireReport) : reportPayloadOf (reportBytes r) = some r := by
  simp only [reportBytes, bytesOfWord, List.cons_append, List.nil_append, reportPayloadOf, wordOfBytes_bytes]

theorem backFrameOf_identFrame (id : VehicleId) (c : WireCard) : backFrameOf (identFrame id c) = .ident id c := by
  simp [backFrameOf, identFrame, unsealFrame_sealFrame, identOf_identBytes]

theorem backFrameOf_statusFrame (k : WireStatus) : backFrameOf (statusFrame k) = .status k := by
  simp [backFrameOf, statusFrame, unsealFrame_sealFrame, statusOf_statusBytes]

theorem backFrameOf_cardFrame (c : WireCard) : backFrameOf (cardFrame c) = .card c := by
  simp [backFrameOf, cardFrame, unsealFrame_sealFrame, cardOf_cardBytes]

theorem backFrameOf_testFrame (i : Nat) : backFrameOf (testFrame i) = .test := by
  simp [backFrameOf, testFrame, unsealFrame_sealFrame]

theorem reportOf_reportFrame (r : WireReport) : reportOf (reportFrame r) = some r := by
  simp [reportOf, reportFrame, unsealFrame_sealFrame, reportPayloadOf_reportBytes]

/-- A frame of another kind or length than a REPORT's is none (R153). -/
theorem reportOf_untaken {kind : Byte} {payload : List Byte} (h : kind ≠ 0x32 ∨ payload.length ≠ 4) :
    reportOf (sealFrame (kind :: payload)) = none := by
  simp only [reportOf, unsealFrame_sealFrame _ (List.cons_ne_nil _ _)]
  split
  next hkind =>
    have hlength := h.resolve_left (not_not.mpr hkind)
    unfold reportPayloadOf
    split
    · simp at hlength
    · rfl
  next => rfl

/-! ## Requests (R178, R179, 10.9) -/

/-- A request transfer with a right length byte and CRC is the request its code names, whatever follows (R178,
assumption 6). -/
theorem requestOf_sealed {code : Byte} {params : List Byte} (hlength : params.length ≤ 255) (extra : List Byte) :
    requestOf (sealFrame (code :: BitVec.ofNat 8 params.length :: params) ++ extra) = requestNamed code params := by
  have hn : (BitVec.ofNat 8 params.length).toNat = params.length := by
    rw [BitVec.toNat_ofNat]; omega
  have hcrc : ∀ w : Word, (bytesOfWord w).length = 2 := fun _ => rfl
  simp only [sealFrame, List.cons_append, List.append_assoc, requestOf, hn, List.length_append, hcrc, List.take_left',
    List.drop_left']
  rw [if_neg (by omega), if_neg]
  simp

theorem requestOf_readItem (item index : Byte) : requestOf (sealFrame [1, 2, item, index]) = some (.readItem item index) := by
  have h := requestOf_sealed (code := 1) (params := [item, index]) (by simp) []
  rwa [List.append_nil] at h

theorem requestOf_writeShadow (offset : Byte) {data : List Byte} (hlength : data.length ≤ 254) :
    requestOf (sealFrame (2 :: BitVec.ofNat 8 (data.length + 1) :: offset :: data)) = some (.writeShadow offset data) := by
  have h := requestOf_sealed (code := 2) (params := offset :: data) (by simp; omega) []
  rwa [List.append_nil] at h

theorem requestOf_plain {code : Byte} : requestOf (sealFrame [code, 0]) = requestNamed code [] := by
  have h := requestOf_sealed (code := code) (params := []) (by simp) []
  rwa [List.append_nil] at h

/-! ## What the part clocks out during a request (R178) -/

theorem recompute_tx (b : Bool) (s : State) : (recompute b s).service.tx = s.service.tx := by
  unfold recompute raiseAtRisk
  repeat' split
  all_goals simp

theorem rederate_tx (w : WorkingCopy) (s : State) : (rederate w s).service.tx = s.service.tx := by
  unfold rederate recomputeIfLinked
  repeat' split
  all_goals simp [recompute_tx]

theorem enterListening_tx (w : WorkingCopy) (s : State) : (enterListening w s).service.tx = s.service.tx := by
  unfold enterListening listenStage
  split <;> simp [rederate_tx]

/-- The end of a load or of a restart raises causes and leaves what is clocked out (R170, R171). -/
theorem endLoad_tx (s : State) : (endLoad s).service.tx = s.service.tx := by
  unfold endLoad
  cases structuralError s.store.shadow with
  | some e => simp [endWithError, enterUnconfigured]
  | none =>
    simp only [Option.elim, endWithCopy, enterListening_tx, raiseClamped]
    split <;> simp

theorem serviceRestart_tx (s : State) : (serviceRestart s).service.tx = s.service.tx := by
  rw [serviceRestart, endLoad_tx]
  simp [resealShadow, releaseBlocks, clearAttention]

/-- A request has the part clock out 00 for as many bytes as its frame has (R178). -/
theorem takeRequest_tx (r : Request) (s : State) : (takeRequest r s).service.tx = List.replicate r.frameLength 0 := by
  cases r with
  | readItem item index =>
    simp only [takeRequest, takeReadItem]
    split <;> rfl
  | writeShadow offset data =>
    simp only [takeRequest, takeWriteShadow]
    split <;> rfl
  | writeback =>
    simp only [takeRequest, takeWriteback]
    split <;> rfl
  | restart =>
    simp only [takeRequest, takeRestart]
    split
    · rfl
    · rw [serviceRestart_tx]
      rfl
  | looptestStart =>
    simp only [takeRequest, takeLooptestStart]
    split <;> rfl
  | looptestStop =>
    simp only [takeRequest, takeLooptestStop]
    split <;> rfl
  | attnRead => rfl
  | attnRearm => rfl

theorem clockZeros_same {n : Nat} {s : State} (h : s.service.tx = List.replicate n 0) : clockZeros n s = s := by
  rw [clockZeros, ← h]
  rfl

theorem exec_serviceRequestInvalid (frame : List Byte) (s : State) :
    exec (.serviceRequestInvalid frame) s = .next (requestTransferred frame s) := rfl

/-- A transfer of a request's own frame is the request (R178, R179). -/
theorem requestTransferred_own {frame : List Byte} {r : Request} (h : requestOf frame = some r)
    (hlength : frame.length = r.frameLength) (s : State) : requestTransferred frame s = takeRequest r s := by
  rw [requestTransferred, h, Option.elim]
  exact clockZeros_same (hlength ▸ takeRequest_tx r s)

/-- A transfer of a request without parameters is the request (R179). -/
theorem exec_plainTransfer {code : Byte} {r : Request} (h : requestNamed code [] = some r) (hlength : r.frameLength = 4)
    (s : State) : exec (.serviceRequestInvalid (sealFrame [code, 0])) s = .next (takeRequest r s) := by
  rw [exec_serviceRequestInvalid, requestTransferred_own (requestOf_plain.trans h) (by rw [sealFrame_length, hlength]; rfl)]

/-! ## Carriers (R11, R153, R179) -/

/-- A vehicle frame is taken alike whichever command brings it (R11, assumption 16). -/
theorem exec_testFrameReturn (frame : List Byte) (s : State) :
    exec (.testFrameReturn frame) s = .next (receiveBack frame (takeBackFrame frame) s) := rfl

theorem exec_vehicleFrameDiscarded (frame : List Byte) (s : State) :
    exec (.vehicleFrameDiscarded frame) s = .next (receiveBack frame (takeBackFrame frame) s) := rfl

theorem takeBackFrame_identFrame (id : VehicleId) (c : WireCard) : takeBackFrame (identFrame id c) = takeIdent id c := by
  funext s
  rw [takeBackFrame, backFrameOf_identFrame]

theorem takeBackFrame_statusFrame (k : WireStatus) : takeBackFrame (statusFrame k) = takeStatus k := by
  funext s
  rw [takeBackFrame, backFrameOf_statusFrame]

theorem takeBackFrame_cardFrame (c : WireCard) : takeBackFrame (cardFrame c) = takeCard c := by
  funext s
  rw [takeBackFrame, backFrameOf_cardFrame]

theorem exec_stageFrameDiscarded (frame : List Byte) (s : State) :
    exec (.stageFrameDiscarded frame) s = .next ((reportOf frame).elim s fun r => receiveReport r s) := rfl

/-- Settles O56: the register by `crc16_eq`, the layouts by definition, the readings by the round trips above. -/
theorem framesReadBack : Obligations.FramesReadBack := by
  have hcarried : ∀ (s : State) (id : VehicleId) (card : WireCard) (status : WireStatus) (carrier : List Byte → Instr),
      (carrier = .vehicleFrameDiscarded ∨ carrier = .testFrameReturn) →
      exec (carrier (identFrame id card)) s = exec (.identReceived id card) s
        ∧ exec (carrier (statusFrame status)) s = exec (.statusReceived status) s
        ∧ exec (carrier (cardFrame card)) s = exec (.cardReceived card) s := by
    intro s id card status carrier hcarrier
    have hback : ∀ frame, exec (carrier frame) s = .next (receiveBack frame (takeBackFrame frame) s) := by
      rcases hcarrier with rfl | rfl <;> exact fun _ => rfl
    rw [hback, hback, hback, takeBackFrame_identFrame, takeBackFrame_statusFrame, takeBackFrame_cardFrame]
    exact ⟨rfl, rfl, rfl⟩
  refine ⟨fun crc bits bytes register hcrc hbits hstart hstep => ?_, fun w => ?_, fun _ => rfl, fun f => ?_, fun f => rfl,
    fun card run hrun => ?_, fun k => ?_, fun r => ?_, unsealFrame_iff, backFrameOf_identFrame, backFrameOf_statusFrame,
    backFrameOf_cardFrame, backFrameOf_testFrame, reportOf_reportFrame, fun f hlow hhigh hrole => ?_,
    fun f hlow hhigh hone htop => ?_, requestOf_readItem, fun offset data => requestOf_writeShadow offset, requestOf_plain,
    requestOf_plain, requestOf_plain, requestOf_plain, requestOf_plain, requestOf_plain,
    fun s id card status report fresh f g item index offset data => ⟨hcarried s id card status, fun _ => rfl, ?_, rfl,
      fun hbuffer => ⟨?_, ?_⟩, ?_, fun hlength => ?_, ?_, ?_, ?_, ?_, ?_, ?_⟩, fun s frame hframe => ?_⟩
  · rw [register_eq_foldl hstep bits.length le_rfl, hstart, List.take_length, hcrc, hbits, crc16_eq]
  · have hlow : w.setWidth 8 = BitVec.ofNat 8 w.toNat := BitVec.eq_of_toNat_eq (by simp)
    have hhigh : (w >>> 8).setWidth 8 = BitVec.ofNat 8 (w.toNat / 256) :=
      BitVec.eq_of_toNat_eq (by simp [Nat.shiftRight_eq_div_pow])
    rw [bytesOfWord, hlow, hhigh]
  · simp [announceFrame, announceBytes]
  · subst hrun
    refine ⟨rfl, fun id => ?_⟩
    simp [identFrame, cardBytes]
  · simp [statusFrame, statusBytes]
  · rfl
  · rw [receptionOf_announceFrame, judgeAnnounce_valid ⟨hlow, hhigh⟩ hrole]
  · rw [receptionOf_shedFrame, judgeShed_valid ⟨hlow, hhigh⟩ ⟨hone, htop⟩]
  · rw [exec_stageFrameDiscarded, reportOf_reportFrame]
    rfl
  · rw [exec_receptionEnd _ _ hbuffer, receptionOf_announceFrame]
    rfl
  · rw [exec_receptionEnd _ _ hbuffer, receptionOf_shedFrame]
    rfl
  · exact congrArg _ (requestTransferred_own (requestOf_readItem item index) rfl s)
  · exact congrArg _ (requestTransferred_own (requestOf_writeShadow offset hlength)
      (by simp [sealFrame_length, Request.frameLength]; omega) s)
  · exact exec_plainTransfer rfl rfl s
  · exact exec_plainTransfer rfl rfl s
  · exact exec_plainTransfer rfl rfl s
  · exact exec_plainTransfer rfl rfl s
  · exact exec_plainTransfer rfl rfl s
  · exact exec_plainTransfer rfl rfl s
  · have hnone : reportOf frame = none := by
      rcases hframe with h | h | h | ⟨kind, payload, rfl, h⟩
      · exact h
      · rw [reportOf, unsealFrame_eq_none (.inl h)]
      · rw [reportOf, unsealFrame_eq_none (.inr h)]
      · exact reportOf_untaken h
    rw [exec_stageFrameDiscarded, hnone]
    rfl

end Sys2Proof.Machine

/-! PROOFS. The service port's transfers: attention, the response buffer, and the requests a transfer spells (10.1, 10.2,
10.9). -/

namespace Sys2Proof.Machine

/-! ## Attention (R181, R182) -/

/-- The pending set in two bytes, low byte first (10.9). -/
theorem pendingBytes_eq (set : BitVec 12) : pendingBytes set = [set.setWidth 8, (set >>> 8).setWidth 8] := by
  have hlow : (set.setWidth 16).setWidth 8 = set.setWidth 8 := by
    apply BitVec.eq_of_toNat_eq
    simp only [BitVec.toNat_setWidth]
    omega
  have hhigh : ((set.setWidth 16) >>> 8).setWidth 8 = (set >>> 8).setWidth 8 := by
    have hset : set.toNat < 4096 := set.isLt
    apply BitVec.eq_of_toNat_eq
    simp only [BitVec.toNat_setWidth, BitVec.toNat_ushiftRight, Nat.shiftRight_eq_div_pow]
    omega
  rw [pendingBytes, bytesOfWord, hlow, hhigh]

/-! ## Read transfers (R178) -/

theorem clockedOut_length (draw clocked : Nat) (response : Option Response) :
    (clockedOut draw clocked response).length = clocked := by
  cases response with
  | none => simp [clockedOut]; omega
  | some r => simp [clockedOut]; omega

theorem clockedOut_none (draw clocked : Nat) :
    clockedOut draw clocked none = (0xFF :: List.replicate clocked 0).take clocked := by
  cases clocked with
  | zero => rfl
  | succ n => simp [clockedOut, List.take_replicate]

/-- A transfer no longer than the response frame clocks out the frame alone. -/
theorem clockedOut_some {draw clocked : Nat} {r : Response} (h : clocked ≤ r.data.length + 4) :
    clockedOut draw clocked (some r) = r.frame.take clocked := by
  have hlength : r.frame.length = r.data.length + 4 := by simp [Response.frame, sealFrame_length]
  rw [clockedOut, show clocked - r.frame.length = 0 by omega]
  simp

theorem responseFrame_eq {r : Response} {code : Byte} (hlength : r.data.length ≤ 255)
    (hcode : (r.status, code) ∈
      [(Status.ok, (0 : Byte)), (.busy, 1), (.refused, 2), (.protectedPage, 3), (.rangeError, 4)]) :
    r.frame = sealFrame (code :: BitVec.ofNat 8 r.data.length :: r.data) := by
  have hstatus : byteOf r.status.code = code := by
    simp only [List.mem_cons, Prod.mk.injEq, List.not_mem_nil, or_false] at hcode
    rcases hcode with ⟨h, rfl⟩ | ⟨h, rfl⟩ | ⟨h, rfl⟩ | ⟨h, rfl⟩ | ⟨h, rfl⟩ <;> rw [h] <;> rfl
  rw [Response.frame, hstatus, byteOf_eq hlength]

/-! ## Request transfers (R178, R179) -/

/-- A code outside the table, or a length that does not fit its code, names no request (10.9). -/
theorem requestNamed_eq_none {code : Byte} {params : List Byte}
    (h : code = 0 ∨ 8 < code.toNat ∨ (code = 1 ∧ params.length ≠ 2) ∨ (code = 2 ∧ params.length = 0)
      ∨ (3 ≤ code.toNat ∧ params.length ≠ 0)) : requestNamed code params = none := by
  unfold requestNamed
  split
  next h1 =>
    subst h1
    have hlength : params.length ≠ 2 := by simpa using h
    split
    · simp at hlength
    · rfl
  next h1 =>
  split
  next h2 =>
    subst h2
    have hlength : params = [] := by simpa using h
    rw [hlength]
  next h2 =>
  split
  · rfl
  next hparams =>
  have hnil : params = [] := not_not.mp hparams
  have hcode : code = 0 ∨ 8 < code.toNat := by
    rcases h with h | h | ⟨h, -⟩ | ⟨h, -⟩ | ⟨-, h⟩
    · exact .inl h
    · exact .inr h
    · exact absurd h h1
    · exact absurd h h2
    · exact absurd (hnil ▸ rfl) h
  rw [if_neg, if_neg, if_neg, if_neg, if_neg, if_neg]
  all_goals rintro rfl; simp at hcode

/-- A transfer that fails a check of R178 is no request. -/
theorem requestOf_eq_none {frame : List Byte} (h : frame.length < 4 ∨ (∃ code n rest, frame = code :: n :: rest ∧
      (rest.length < n.toNat + 2
      ∨ bytesOfWord (crc16 (code :: n :: rest.take n.toNat)) ≠ (rest.drop n.toNat).take 2
      ∨ code = 0 ∨ 8 < code.toNat ∨ (code = 1 ∧ n ≠ 2) ∨ (code = 2 ∧ n = 0)
      ∨ (3 ≤ code.toNat ∧ n ≠ 0)))) : requestOf frame = none := by
  unfold requestOf
  split
  next code n rest =>
    split
    · rfl
    next hlong =>
    split
    · rfl
    next hcrc =>
    have hparams : (rest.take n.toNat).length = n.toNat := by
      rw [List.length_take]; omega
    refine requestNamed_eq_none ?_
    rw [hparams]
    rcases h with h | ⟨code', n', rest', hframe, h⟩
    · simp only [List.length_cons] at h
      omega
    · obtain ⟨rfl, rfl, rfl⟩ : code = code' ∧ n = n' ∧ rest = rest' := by simpa using hframe
      have hn : ∀ k : Nat, k < 256 → (n = BitVec.ofNat 8 k ↔ n.toNat = k) := fun k hk => by
        rw [← BitVec.toNat_inj, BitVec.toNat_ofNat, Nat.mod_eq_of_lt hk]
      have htwo := hn 2 (by decide)
      have hzero := hn 0 (by decide)
      simpa [hlong, hcrc, ← htwo, ← hzero] using h
  · rfl

/-- Settles O55: the attention requests, a read transfer by what the buffer holds, a request transfer by its checks. -/
theorem attentionAndTransfers : Obligations.AttentionAndTransfers := by
  intro s
  have hread : exec .attnRead s = .next (takeAttnRead s) := rfl
  have hrearm : exec .attnRearm s = .next (takeAttnRearm s) := rfl
  refine ⟨⟨_, hread, ?_, rfl, unchangedExcept_of_same⟩, ⟨_, hrearm, rfl, ?_, unchangedExcept_of_same⟩,
    fun clocked => ⟨readTransferred clocked s, rfl, rfl, clockedOut_length _ _ _, fun hnone => ?_,
      fun r hr code head hshort hlength hcode hhead => ?_, unchangedExcept_of_same⟩,
    fun frame hframe => ⟨_, exec_serviceRequestInvalid frame s, ?_⟩, fun c code params head extra frame hc hlength hhead hframe => ?_⟩
  · simp [takeAttnRead, pendingBytes_eq, List.replicate]
  · simp [takeAttnRearm, State.attention, State.unmasked]
  · show clockedOut _ _ s.service.response = _
    rw [hnone, clockedOut_none]
  · show clockedOut _ _ s.service.response = _
    rw [Option.mem_def.mp hr, clockedOut_some hshort, responseFrame_eq hlength hcode, hhead]
    rfl
  · rw [requestTransferred, requestOf_eq_none hframe]
    exact ⟨rfl, unchangedExcept_of_same⟩
  · have hspelt : ∃ r, exec c s = .next (takeRequest r s) ∧ requestNamed code params = some r := by
      rcases hc with ⟨item, index, rfl, rfl, rfl⟩ | ⟨offset, data, rfl, rfl, rfl⟩ | ⟨rfl, rfl, rfl⟩ | ⟨rfl, rfl, rfl⟩
        | ⟨rfl, rfl, rfl⟩ | ⟨rfl, rfl, rfl⟩ | ⟨rfl, rfl, rfl⟩ | ⟨rfl, rfl, rfl⟩ <;> exact ⟨_, rfl, rfl⟩
    obtain ⟨r, hexec, hnamed⟩ := hspelt
    have hrequest : requestOf frame = some r := by
      rw [hframe, hhead, ← hnamed]
      exact requestOf_sealed hlength extra
    refine ⟨_, _, hexec, exec_serviceRequestInvalid frame s, ?_, ?_⟩
    · rw [requestTransferred, hrequest]
      rfl
    · rw [requestTransferred, hrequest]
      exact unchangedExcept_of_same

end Sys2Proof.Machine

/-! PROOFS. The service port's items (10.10): the widths of their fields, the codes of their tables, and each item as the
manual lists it. -/

namespace Sys2Proof.Machine

/-! ## Fields, low byte first (3.3, 10.10) -/

theorem bytesOfWord_ofNat_eq (n : Nat) :
    bytesOfWord (BitVec.ofNat 16 n) = (List.range 2).map fun i => BitVec.ofNat 8 (n / 256 ^ i) := by
  have hlow : (BitVec.ofNat 16 n).setWidth 8 = BitVec.ofNat 8 n := by
    apply BitVec.eq_of_toNat_eq
    simp only [BitVec.toNat_setWidth, BitVec.toNat_ofNat]
    omega
  have hhigh : ((BitVec.ofNat 16 n) >>> 8).setWidth 8 = BitVec.ofNat 8 (n / 256) := by
    apply BitVec.eq_of_toNat_eq
    simp only [BitVec.toNat_setWidth, BitVec.toNat_ushiftRight, BitVec.toNat_ofNat, Nat.shiftRight_eq_div_pow]
    omega
  simp [bytesOfWord, hlow, hhigh, List.range_succ]

/-- One byte of a four-byte field. -/
theorem setWidth_shift_ofNat (n : Nat) {k : Nat} (hk : k < 4) :
    ((BitVec.ofNat 32 n) >>> (8 * k)).setWidth 8 = BitVec.ofNat 8 (n / 256 ^ k) := by
  apply BitVec.eq_of_toNat_eq
  simp only [BitVec.toNat_setWidth, BitVec.toNat_ushiftRight, BitVec.toNat_ofNat, Nat.shiftRight_eq_div_pow]
  obtain rfl | rfl | rfl | rfl : k = 0 ∨ k = 1 ∨ k = 2 ∨ k = 3 := by omega
  · norm_num
  · norm_num
    omega
  · norm_num
    omega
  · norm_num
    omega

theorem bytesOfLong_ofNat (n : Nat) :
    bytesOfLong (BitVec.ofNat 32 n) = (List.range 4).map fun i => BitVec.ofNat 8 (n / 256 ^ i) := by
  have hfirst : (BitVec.ofNat 32 n).setWidth 8 = BitVec.ofNat 8 (n / 256 ^ 0) :=
    setWidth_shift_ofNat n (by decide : 0 < 4)
  rw [bytesOfLong, hfirst, setWidth_shift_ofNat n (by decide : 1 < 4), setWidth_shift_ofNat n (by decide : 2 < 4),
    setWidth_shift_ofNat n (by decide : 3 < 4)]
  rfl

theorem setWidth_shift_ofInt (x : Int) {k : Nat} (hk : k < 4) :
    ((BitVec.ofInt 32 x) >>> (8 * k)).setWidth 8 = BitVec.ofInt 8 (x / 256 ^ k) := by
  apply BitVec.eq_of_toNat_eq
  simp only [BitVec.toNat_setWidth, BitVec.toNat_ushiftRight, BitVec.toNat_ofInt, Nat.shiftRight_eq_div_pow]
  obtain rfl | rfl | rfl | rfl : k = 0 ∨ k = 1 ∨ k = 2 ∨ k = 3 := by omega
  · norm_num
    omega
  · norm_num
    omega
  · norm_num
    omega
  · norm_num
    omega

theorem bytesOfLong_ofInt (x : Int) :
    bytesOfLong (BitVec.ofInt 32 x) = (List.range 4).map fun i => BitVec.ofInt 8 (x / 256 ^ i) := by
  have hfirst : (BitVec.ofInt 32 x).setWidth 8 = BitVec.ofInt 8 (x / 256 ^ 0) :=
    setWidth_shift_ofInt x (by decide : 0 < 4)
  rw [bytesOfLong, hfirst, setWidth_shift_ofInt x (by decide : 1 < 4), setWidth_shift_ofInt x (by decide : 2 < 4),
    setWidth_shift_ofInt x (by decide : 3 < 4)]
  rfl

theorem bytesOfWord_ofInt_eq (x : Int) :
    bytesOfWord (BitVec.ofInt 16 x) = (List.range 2).map fun i => BitVec.ofInt 8 (x / 256 ^ i) := by
  have hlow : BitVec.ofInt 8 (x % 256) = BitVec.ofInt 8 x := by
    apply BitVec.eq_of_toNat_eq
    simp only [BitVec.toNat_ofInt]
    omega
  simp [bytesOfWord_ofInt, hlow, List.range_succ]

/-- A two-byte field sent as received: its value never exceeds the field. -/
theorem nat16_toNat (x : Word) : nat16 x.toNat = bytesOfWord x := by
  have hx : x.toNat ≤ 65535 := Nat.le_of_lt_succ x.isLt
  rw [nat16, wordOfNat, Nat.min_eq_left hx, BitVec.ofNat_toNat, BitVec.setWidth_eq]

/-! ## Codes and flags (10.10) -/

theorem byteOf_station (c : Station) : byteOf c.code = BitVec.ofNat 8 c.code := by cases c <;> rfl
theorem byteOf_role (c : Role) : byteOf c.code = BitVec.ofNat 8 c.code := by cases c <;> rfl
theorem byteOf_readiness (c : Readiness) : byteOf c.code = BitVec.ofNat 8 c.code := by cases c <;> rfl
theorem byteOf_pilot (c : PilotClass) : byteOf c.code = BitVec.ofNat 8 c.code := by cases c <;> rfl
theorem byteOf_proximity (c : Proximity) : byteOf c.code = BitVec.ofNat 8 c.code := by cases c <;> rfl
theorem byteOf_earth (c : Earth) : byteOf c.code = BitVec.ofNat 8 c.code := by cases c <;> rfl
theorem byteOf_gate (c : LendingGate) : byteOf c.code = BitVec.ofNat 8 c.code := by cases c <;> rfl
theorem byteOf_reserveState (c : ReserveState) : byteOf c.code = BitVec.ofNat 8 c.code := by cases c <;> rfl
theorem byteOf_mode (c : StageMode) : byteOf c.code = BitVec.ofNat 8 c.code := by cases c <;> rfl
theorem byteOf_converter (c : Converter) : byteOf c.code = BitVec.ofNat 8 c.code := by cases c <;> rfl
theorem byteOf_loopResult (c : LoopResult) : byteOf c.code = BitVec.ofNat 8 c.code := by cases c <;> rfl
theorem byteOf_outcome (c : RunOutcome) : byteOf c.code = BitVec.ofNat 8 c.code := by cases c <;> rfl
theorem byteOf_haltReason (c : HaltReason) : byteOf c.code = BitVec.ofNat 8 c.code := by cases c <;> rfl
theorem byteOf_loadResult (c : LoadResult) : byteOf c.code = BitVec.ofNat 8 c.code := by cases c <;> rfl
theorem byteOf_writebackResult (c : WritebackResult) : byteOf c.code = BitVec.ofNat 8 c.code := by cases c <;> rfl

/-! ## The answer of a READ_ITEM (R180) -/

/-- The service block after a READ_ITEM, by what the item gives. -/
theorem takeReadItem_service (item index : Byte) (s : State) :
    (takeReadItem item index s).service = { s.service with
      response := some ((itemData item.toNat index.toNat s).elim { status := .rangeError, data := [] }
        fun data => { status := .ok, data := data })
      tx := List.replicate 6 0 } := by
  unfold takeReadItem
  split
  next hdata => simp [hdata]
  next hdata => simp [hdata]

theorem takeReadItem_unchangedExcept (item index : Byte) (s : State) :
    unchangedExcept [.service] s (takeReadItem item index s) := by
  unfold takeReadItem
  split <;> exact respond_unchangedExcept _ _ _ s

theorem itemData_plain {item index : Nat} (hseven : item ≠ 7) (heleven : item ≠ 11) (s : State) :
    itemData item index s = if index = 0 then plainItem item s else none := by
  rw [itemData, if_neg hseven, if_neg heleven]

theorem plainItem_untabled {item : Nat} (h : item = 0 ∨ 13 ≤ item) (s : State) : plainItem item s = none := by
  obtain rfl | ⟨n, rfl⟩ : item = 0 ∨ ∃ n, item = n + 13 := h.imp id fun hn => ⟨item - 13, by omega⟩
  · rfl
  · rfl

/-! ## The items as listed -/

theorem itemStation_eq {s : State} {left governing : Nat}
    (hleft : left = (match s.link.station with
      | .listening => s.link.listenTimer.getD 0 / 1000
      | .running => s.link.announceTimer.getD 0 / 1000
      | .loading | .unconfigured | .clash => 0))
    (hgoverning : (s.peers.entries.find? (fun p => p.role == .meter)).elim (governing = 0) (fun p => governing = p.station)) :
    itemStation s = [BitVec.ofNat 8 s.link.station.code, BitVec.ofNat 8 (s.role.elim 0 Role.code), byteOf s.stationNumber]
      ++ nat32 left ++ [byteOf s.peers.entries.length, if s.peers.alone then 1 else 0, byteOf governing] := by
  have htime : s.timeLeft = left := by
    rw [hleft, State.timeLeft]
    cases s.link.station <;> rfl
  have hmeter : (governingMeter s.peers.entries).elim 0 Peer.station = governing := by
    rw [governingMeter]
    cases hfind : s.peers.entries.find? (fun p => p.role == .meter) with
    | none =>
      rw [hfind] at hgoverning
      exact Eq.symm hgoverning
    | some p =>
      rw [hfind] at hgoverning
      exact Eq.symm hgoverning
  have hrole : byteOf (s.role.elim 0 Role.code) = BitVec.ofNat 8 (s.role.elim 0 Role.code) := by
    cases s.role with
    | none => rfl
    | some r => exact byteOf_role r
  rw [itemStation, htime, hmeter, hrole, byteOf_station]
  rfl

/-- A field of the last STATUS is sent as it was received. -/
theorem mayBeAbsent_word (field : WireStatus → Word) (status : Option WireStatus) :
    mayBeAbsent 2 nat16 (status.map fun k => (field k).toNat)
      = mayBeAbsent 2 (fun k => bytesOfWord (field k)) status := by
  cases status with
  | none => rfl
  | some k => simp only [Option.map_some, mayBeAbsent, nat16_toNat]

theorem nat16_pvdis (s : State) : nat16 s.pvdis = s.vehicle.lastStatus.elim [0, 0] fun k => bytesOfWord k.pvdis := by
  rw [State.pvdis]
  cases s.vehicle.lastStatus with
  | none => rfl
  | some k => exact nat16_toNat k.pvdis

theorem flagByte_not (b : Bool) : flagByte (!b) = if b then 0 else 1 := by cases b <;> rfl

/-- A flag sent for a condition. -/
theorem flagByte_of_iff {b : Bool} {p : Prop} [Decidable p] (h : b = true ↔ p) : flagByte b = if p then 1 else 0 := by
  rw [flagByte]
  exact if_congr h rfl rfl

/-- The budget record in the order 10.10 lists it. -/
theorem budgetBytes : Budget.bytes = fun b => nat16 b.guard ++ [byteOf (b.meter.getD 0)]
    ++ mayBeAbsent 2 nat16 b.feederLoad ++ int32 b.totalDraw ++ int32 b.siteLoad ++ int32 b.headroom
    ++ nat16 b.budget ++ int32 b.overdraw := rfl

/-- Settles O51: the code tables and the fields first, then each item from what a READ_ITEM's answer is made of. -/
theorem itemsAreAnswered : Obligations.ItemsAreAnswered := by
  refine ⟨by decide, fun n x => ⟨rfl, bytesOfWord_ofNat_eq _, bytesOfLong_ofNat _, bytesOfWord_ofInt_eq _,
    bytesOfLong_ofInt _⟩, fun s item index answer left governing hanswer hleft hgoverning => ?_⟩
  have hzero {n : Nat} (h : index = 0) (h7 : n ≠ 7) (h11 : n ≠ 11) : itemData n index.toNat s = plainItem n s := by
    rw [itemData_plain h7 h11, if_pos (by rw [h]; rfl)]
  refine ⟨takeReadItem item index s, rfl, takeReadItem_unchangedExcept item index s, fun α width bytes => ⟨rfl, fun x => rfl⟩,
    ?_⟩
  simp only [hanswer, takeReadItem_service]
  refine ⟨fun h => ?_, fun h7 h11 hindex => ?_, fun h hlength => ?_, fun h hpage => ?_, fun h hindex => ?_,
    fun h hindex => ?_, fun h hindex => ?_, fun h hindex => ?_, fun h hindex => ?_, fun h hindex => ?_,
    fun h p hp => ?_, fun h hindex => ?_, fun h hindex => ?_, fun h hindex => ?_, fun h hpage => ?_, fun h hindex => ?_⟩
  · rw [itemData_plain (by omega) (by omega), plainItem_untabled h, ite_self]
    rfl
  · have hne : index.toNat ≠ 0 := fun h0 => hindex (BitVec.eq_of_toNat_eq h0)
    rw [itemData_plain h7 h11, if_neg hne]
    rfl
  · rw [h, itemData, if_pos rfl, List.getElem?_eq_none hlength]
    rfl
  · rw [h, itemData, if_neg (by decide), if_pos rfl, if_neg (by omega)]
    rfl
  · rw [h, hzero hindex (by decide) (by decide)]
    simp only [plainItem, Option.elim_some, itemStation_eq hleft hgoverning]
  · rw [h, hzero hindex (by decide) (by decide)]
    simp only [plainItem, Option.elim_some, itemReadiness, flagByte, byteOf_readiness,
      byteOf_outcome, byteOf_haltReason]
    rfl
  · rw [h, hzero hindex (by decide) (by decide)]
    simp only [plainItem, Option.elim_some, itemVehicle, flagByte, byteOf_pilot, byteOf_proximity, byteOf_earth]
    rfl
  · rw [h, hzero hindex (by decide) (by decide)]
    simp only [plainItem, Option.elim_some, itemAccount, State.eveh, mayBeAbsent_word, nat16_pvdis, byteOf_gate]
  · rw [h, hzero hindex (by decide) (by decide)]
    simp only [plainItem, Option.elim_some, itemReserve, historyBytes, flagByte_not, byteOf_reserveState,
      List.append_assoc]
    rfl
  · rw [h, hzero hindex (by decide) (by decide)]
    have hsilent : flagByte (decide (5 ≤ s.composer.silentCount)) = if 5 ≤ s.composer.silentCount then 1 else 0 :=
      flagByte_of_iff decide_eq_true_iff
    have hfault : flagByte (s.composer.converter == some .fault) = if s.composer.converter = some .fault then 1 else 0 :=
      flagByte_of_iff beq_iff_eq
    have htimeout : flagByte (s.composer.timedOut || s.composer.wakeTimer == some wakeLimit)
        = if s.composer.timedOut = true ∨ s.composer.wakeTimer = some 10000000 then 1 else 0 :=
      flagByte_of_iff (by rw [Bool.or_eq_true, beq_iff_eq, show wakeLimit = 10000000 from rfl])
    simp only [plainItem, Option.elim_some, itemComposer, shareBytes, budgetBytes]
    delta composerBytes
    rw [hsilent, hfault, htimeout]
    simp only [byteOf_mode, byteOf_converter, flagByte, wholeMillis, List.append_assoc,
      List.cons_append, List.nil_append]
  · rw [h, itemData, if_pos rfl, Option.mem_def.mp hp]
    simp only [Option.map_some, Option.elim_some, itemPeer, byteOf_role]
    rfl
  · rw [h, hzero hindex (by decide) (by decide)]
    rfl
  · rw [h, hzero hindex (by decide) (by decide)]
    simp only [plainItem, Option.elim_some, itemCounters, byteOf_loopResult]
  · rw [h, hzero hindex (by decide) (by decide)]
    cases hrecord : s.tracker.record with
    | none => simp only [plainItem, Option.elim_some, itemRecord, hrecord]
    | some r =>
      simp only [plainItem, Option.elim_some, itemRecord, hrecord, LastSession.bytes, byteOf_outcome, byteOf_haltReason]
  · rw [h, itemData, if_neg (by decide), if_pos rfl, if_pos hpage]
    rfl
  · rw [h, hzero hindex (by decide) (by decide)]
    simp only [plainItem, Option.elim_some, itemStore, byteOf_loadResult, byteOf_writebackResult]
    rfl

end Sys2Proof.Machine

/-! PROOFS. The service restart (9.6): the release of the blocks and the two ends of the checks on the shadow. -/

namespace Sys2Proof.Machine

/-! ## A restart that is carried out (R176) -/

/-- The part as a restart leaves it for the checks on the shadow: answered, the attention set empty, the blocks released
and the shadow's CRC computed (R176, steps 1 to 3). -/
def State.released (s : State) : State := resealShadow (releaseBlocks (clearAttention (respond 4 .ok [] s)))

/-- What a release leaves of each block (R26, R49, R64, R84, R100, R130, R151, R168, R177). -/
@[simp] theorem released_frame (s : State) :
    s.released.vehicle = s.vehicle.restart ∧ s.released.tracker = s.tracker.vacate ∧ s.released.account = Account.reset
      ∧ s.released.link = s.link.restart ∧ s.released.peers = PeerTable.reset ∧ s.released.share = Share.reset
      ∧ s.released.reserve = Reserve.reset ∧ s.released.composer = Composer.reset
      ∧ s.released.store = s.store.resealed
      ∧ s.released.service = { s.service with
          response := some { status := .ok, data := [] }, tx := List.replicate 4 0, pendingCauses := 0, armed := true }
      ∧ s.released.clock = s.clock ∧ s.released.freeDraws = s.freeDraws ∧ s.released.pending = s.pending := by
  and_intros <;> rfl

theorem exec_restart_busy {s : State} (h : s.link.station = .loading ∨ s.store.writebackRunning = true) :
    exec .restart s = .next (respond 4 .busy [] s) := congrArg Host.Outcome.next (if_pos h)

theorem exec_restart_released {s : State} (hload : s.link.station ≠ .loading) (hidle : s.store.writebackRunning = false) :
    exec .restart s = .next (endLoad s.released) := congrArg Host.Outcome.next (if_neg (by simp [hload, hidle]))

/-- An image that fails a check ends the restart in UNCONFIGURED (R176). -/
theorem endLoad_released_error {s : State} {e : LoadResult} (h : structuralError (withImageCrc s.store.shadow) = some e) :
    endLoad s.released = endWithError e s.released := by
  rw [endLoad, show s.released.store.shadow = withImageCrc s.store.shadow from rfl, h]
  rfl

/-- A sound image ends the restart at the link-up check of the entry to LISTENING (R176). -/
theorem endLoad_released_sound {s : State} (h : structuralError (withImageCrc s.store.shadow) = none) :
    endLoad s.released = checkLinkUp ((raiseClamped (s.released.setStore s.released.store.configure)).listening
      (formCopy (withImageCrc s.store.shadow))) := by
  have hvacant : (raiseClamped (s.released.setStore s.released.store.configure)).tracker.readiness = .vacant := by
    rw [raiseClamped]
    split <;> rfl
  rw [endLoad, show s.released.store.shadow = withImageCrc s.store.shadow from rfl, h, ← enterListening_of_vacant _ hvacant]
  rfl

/-- The line after a release: a transmission stopped, the receiver deaf until the line is idle again, and the counters
kept (R77, R84). -/
theorem restart_line (k : Link) :
    k.restart.transmitting = none
      ∧ k.restart.idleTime = (if k.transmitting = none then k.idleTime else 0)
      ∧ k.restart.receiver = (if k.transmitting = none then k.receiver.restart else .deaf 0)
      ∧ k.restart.receiveBuffer = [] ∧ k.restart.goodFrames = k.goodFrames ∧ k.restart.crcErrors = k.crcErrors
      ∧ k.restart.malformed = k.malformed ∧ k.restart.collisions = k.collisions ∧ k.restart.dropped = k.dropped := by
  by_cases hquiet : k.transmitting = none
  · simp [Link.restart, Link.stopDriving, hquiet]
  · simp [Link.restart, Link.stopDriving, hquiet, Receiver.restart]

/-- The composer at an entry to LISTENING after a release: derated at no temperature in the POST role (R154). -/
theorem reset_listening (w : WorkingCopy) : Composer.reset.listening w = { Composer.reset with
    derateFactor := if w.role = .post then w.derate.getD 0 0 else 0
    pderated := if w.role = .post then w.prated * w.derate.getD 0 0 / 256 else 0 } := by
  unfold Composer.listening
  split <;> rfl

/-- Settles O54: a BUSY answer, or the released part and the two ends of the checks on its shadow. -/
theorem restartRunsTheShadow : Obligations.RestartRunsTheShadow := by
  rintro s image w stops answer links session hsession rfl hw rfl hanswer hlinks
  by_cases hbusy : s.link.station = .loading ∨ s.store.writebackRunning = true
  · refine ⟨_, exec_restart_busy hbusy, fun _ => ⟨by simp [hanswer], respond_unchangedExcept _ _ _ s⟩,
      fun hload hidle => ?_⟩
    exact absurd hbusy (by simp [hload, hidle])
  obtain ⟨hload, hidle⟩ := not_or.mp hbusy
  refine ⟨_, exec_restart_released hload (by simpa using hidle), fun h => absurd h hbusy, fun _ _ => ?_⟩
  obtain ⟨hquiet, hidleTime, hreceiver, hbuffer, hgood, hcrc, hmalformed, hcollisions, hdropped⟩ := restart_line s.link
  have hdeaf := hreceiver.trans (show _ = (if s.link.transmitting = none then
    (match s.link.receiver with
      | .deaf quiet => .deaf (min quiet 40)
      | .hearing => .deaf 40
      | .ending => .deaf 40)
    else .deaf 0) by cases s.link.receiver <;> rfl)
  cases hcheck : structuralError (withImageCrc s.store.shadow) with
  | some e =>
    obtain rfl : links = false := by rw [hlinks, hcheck]; rfl
    rw [endLoad_released_error hcheck]
    obtain ⟨hstore, hlink, hservice, hpeers, hshare, hreserve⟩ := endWithError_effect e s.released
    simp only [released_frame] at hstore hlink hservice hpeers hshare hreserve
    rw [hlink]
    refine ⟨?_, withImageCrc_effect, ?_, hpeers, hshare, ?_, ?_, ?_, ?_, ⟨rfl, rfl, rfl, rfl, rfl, hquiet, hidleTime,
      hdeaf, hbuffer, hgood, hcrc, hmalformed, hcollisions, hdropped⟩, fun e' he' => ?_, fun hnone => ?_,
      unchangedExcept_of_same⟩
    · rw [hservice, hanswer]
      simp
    · simp
    · rw [hreserve]
      rfl
    · simp [Composer.reset]
    · simp [Tracker.vacate, Tracker.reset]
    · simp [VehicleLine.restart, VehicleLine.clearSession]
    · obtain rfl := Option.some_inj.mp he'
      exact ⟨rfl, rfl, hstore⟩
    · exact absurd hnone (by simp)
  | none =>
    rw [endLoad_released_sound hcheck, ← hw]
    obtain ⟨hstore, hservice⟩ := raiseClamped_configure s.released
    generalize hy : raiseClamped _ = y at hstore hservice ⊢
    simp only [released_frame, Store.resealed, ← hw] at hstore hservice
    have hworking : y.store.working = some w := by rw [hstore, hw]; rfl
    have hcan : (y.listening w).canLinkUp = links := by
      rw [canLinkUp_listening hworking (by simp [← hy, Tracker.vacate, Tracker.reset]), hlinks, hcheck]
      simp [← hy, VehicleLine.restart, VehicleLine.clearSession]
    obtain ⟨hdo, hskip⟩ := checkLinkUp_effect (y.listening w) w hworking
    have hlink : (checkLinkUp (y.listening w)).link = s.link.restart.listen w := by simp [← hy]
    rw [hlink]
    refine ⟨?_, withImageCrc_effect, ?_, ?_, ?_, ?_, ?_, ?_, ?_, ⟨rfl, rfl, rfl, rfl, rfl, hquiet, hidleTime,
      hdeaf, hbuffer, hgood, hcrc, hmalformed, hcollisions, hdropped⟩, fun e' he' => absurd he' (by simp),
      fun _ => ⟨rfl, rfl, ?_⟩, by subst hy; exact unchangedExcept_of_same⟩
    · simp [hservice, hanswer]
    · cases links with
      | true => exact (hdo hcan).2.2
      | false => rw [hskip hcan]; simp [← hy]
    · simp [← hy, PeerTable.reset]
    · simp [← hy, leaveRunningShare, endTenure, Share.reset]
    · simp [← hy, listenReserve, leaveRunningReserve, Reserve.reset, edgeTimeoutTime]
    · simp only [checkLinkUp_frame, listening_frame, ← hy, raiseClamped_frame, State.setStore_composer, released_frame,
        reset_listening, true_and]
      rfl
    · cases links with
      | true => rw [(hdo hcan).2.1]; simp [← hy, Tracker.linkUp, Tracker.vacate, Tracker.reset]
      | false => rw [hskip hcan]; simp [← hy, Tracker.vacate, Tracker.reset]
    · cases links with
      | true =>
        rw [(hdo hcan).1, ← hy]
        simp [VehicleLine.linkUp, nextSession, hsession, VehicleLine.restart, VehicleLine.clearSession]
      | false =>
        rw [hskip hcan, ← hy]
        simp [VehicleLine.restart, VehicleLine.clearSession]
    · simp [hstore, Store.configure, copyClamped, hw]

end Sys2Proof.Machine

/-! PROOFS. The promises of the whole part: what only the named events change (4.6, 6.4, 9.1, 9.5, 10.2). -/

namespace Sys2Proof.Machine

/-! ## Steady changes

An operation is steady when it clears no attention cause, lowers no link counter and does not raise the allowance. Each
lemma below starts from any earlier state `u`, so that the lemmas of an operation's steps compose to its own. -/

/-- The counters of R81, compared one by one. -/
def Link.counters (k : Link) : Nat × Nat × Nat × Nat × Nat :=
  (k.goodFrames, k.crcErrors, k.malformed, k.collisions, k.dropped)

/-- No cause pending in `s` is clear in `t`, no link counter has fallen, and A has not risen. -/
structure State.Steady (s t : State) : Prop where
  allowance : t.share.allowance ≤ s.share.allowance
  causes : ∃ set, t.service.pendingCauses = s.service.pendingCauses ||| set
  counters : s.link.counters ≤ t.link.counters

theorem State.Steady.refl (s : State) : s.Steady s :=
  ⟨Nat.le_refl _, ⟨0, BitVec.or_zero.symm⟩, Nat.le_refl _, Nat.le_refl _, Nat.le_refl _, Nat.le_refl _, Nat.le_refl _⟩

theorem State.Steady.of_same {u s t : State} (h : u.Steady s)
    (allowance : t.share.allowance = s.share.allowance := by simp)
    (causes : t.service.pendingCauses = s.service.pendingCauses := by simp)
    (counters : t.link.counters = s.link.counters := by simp) : u.Steady t :=
  ⟨allowance ▸ h.allowance, causes ▸ h.causes, counters ▸ h.counters⟩

section Blocks
variable {u s : State} (h : u.Steady s)
include h

theorem State.Steady.setVehicle (v : VehicleLine) : u.Steady (s.setVehicle v) := h.of_same

theorem State.Steady.setTracker (t : Tracker) : u.Steady (s.setTracker t) := h.of_same

theorem State.Steady.setAccount (a : Account) : u.Steady (s.setAccount a) := h.of_same

theorem State.Steady.setPeers (p : PeerTable) : u.Steady (s.setPeers p) := h.of_same

theorem State.Steady.setReserve (r : Reserve) : u.Steady (s.setReserve r) := h.of_same

theorem State.Steady.setComposer (c : Composer) : u.Steady (s.setComposer c) := h.of_same

theorem State.Steady.setStore (st : Store) : u.Steady (s.setStore st) := h.of_same

end Blocks

/-- A new allowance that is no larger is a steady change. -/
theorem State.Steady.setShare {u s : State} {sh : Share} (h : u.Steady s) (hle : sh.allowance ≤ s.share.allowance) :
    u.Steady (s.setShare sh) :=
  ⟨Nat.le_trans hle h.allowance, h.causes, h.counters⟩

/-- Counting on is a steady change. -/
theorem State.Steady.setLink {u s : State} {k : Link} (h : u.Steady s) (hle : s.link.counters ≤ k.counters) :
    u.Steady (s.setLink k) :=
  ⟨h.allowance, h.causes, le_trans h.counters hle⟩

theorem raise_steady {u s : State} (h : u.Steady s) (c : Cause) : u.Steady (raise c s) := by
  obtain ⟨set, hset⟩ := h.causes
  refine ⟨h.allowance, ⟨set ||| BitVec.twoPow 12 c.bit, ?_⟩, h.counters⟩
  rw [raise_service, withCause, hset, BitVec.or_assoc]

theorem le_bump (limit n : Nat) : n ≤ bump limit n := by
  unfold bump
  split <;> omega

/-! ## Tracker, share engine and halts -/

theorem claimHanded_steady {u s : State} (h : u.Steady s) : u.Steady (claimHanded s) := by
  unfold claimHanded
  split
  next hlow => exact h.setShare (by rw [setAllowance_allowance]; omega)
  next => exact h

theorem updateLending_steady {u s : State} (h : u.Steady s) : u.Steady (updateLending s) := h.of_same

theorem handOver_steady {u s : State} (h : u.Steady s) (p : Int) : u.Steady (handOver p s) := h.of_same

theorem raiseAtRisk_steady {u s : State} (h : u.Steady s) (before : Readiness) : u.Steady (raiseAtRisk before s) := by
  unfold raiseAtRisk
  split
  · exact raise_steady h _
  · exact h

theorem recompute_steady {u s : State} (h : u.Steady s) (cardStored : Bool) : u.Steady (recompute cardStored s) := by
  unfold recompute
  split
  · exact updateLending_steady (claimHanded_steady (raiseAtRisk_steady (h.setTracker _) _))
  · exact h

theorem recomputeIfLinked_steady {u s : State} (h : u.Steady s) : u.Steady (recomputeIfLinked s) := by
  unfold recomputeIfLinked
  split
  · exact recompute_steady h _
  · exact h

theorem storeCard_steady {u s : State} (h : u.Steady s) (c : WireCard) : u.Steady (storeCard c s) :=
  recompute_steady (h.setTracker _) _

theorem halt_steady {u s : State} (h : u.Steady s) (r : HaltReason) : u.Steady (halt r s) := by
  unfold halt
  split
  · exact h
  · exact updateLending_steady (claimHanded_steady (raise_steady ((h.setTracker _).setVehicle _) _))

theorem confirmNone_steady {u s : State} (h : u.Steady s) : u.Steady (confirmNone s) := by
  unfold confirmNone
  split
  · exact (claimHanded_steady ((h.setTracker _).setAccount _)).setVehicle _
  split
  · exact h.of_same
  · exact h

theorem checkLinkUp_steady {u s : State} (h : u.Steady s) : u.Steady (checkLinkUp s) := h.of_same

/-! ## The vehicle line -/

theorem decideTestFrame_steady {u s : State} (h : u.Steady s) (pass : Bool) : u.Steady (decideTestFrame pass s) := by
  unfold decideTestFrame
  split
  · exact raise_steady h.of_same _
  · exact h.of_same

theorem loopReceive_steady {u s : State} (h : u.Steady s) (frame : List Byte) : u.Steady (loopReceive frame s) := by
  unfold loopReceive
  split
  · exact decideTestFrame_steady h _
  · exact h

theorem abortLoopTest_steady {u s : State} (h : u.Steady s) : u.Steady (abortLoopTest s) := raise_steady h.of_same _

theorem receiveBack_steady {u s : State} {ordinary : State → State} (h : u.Steady s) (frame : List Byte)
    (hordinary : u.Steady (ordinary s)) : u.Steady (receiveBack frame ordinary s) := by
  unfold receiveBack
  split
  · exact loopReceive_steady h frame
  · exact hordinary

theorem takeIdent_steady {u s : State} (h : u.Steady s) (id : VehicleId) (c : WireCard) :
    u.Steady (takeIdent id c s) := by
  unfold takeIdent
  split
  · exact (storeCard_steady (h.setVehicle _) c).setVehicle _
  · exact h

theorem acceptStatus_steady {u s : State} (h : u.Steady s) (k : WireStatus) : u.Steady (acceptStatus k s) :=
  recompute_steady h.of_same _

theorem takeStatus_steady {u s : State} (h : u.Steady s) (k : WireStatus) : u.Steady (takeStatus k s) := by
  unfold takeStatus
  split
  case isFalse => exact h
  split
  case isFalse => exact halt_steady h _
  split
  · exact halt_steady (acceptStatus_steady h k) _
  · exact acceptStatus_steady h k

theorem takeCard_steady {u s : State} (h : u.Steady s) (c : WireCard) : u.Steady (takeCard c s) := by
  unfold takeCard
  split
  · exact storeCard_steady h c
  · exact h

theorem takeBackFrame_steady {u s : State} (h : u.Steady s) (frame : List Byte) : u.Steady (takeBackFrame frame s) := by
  unfold takeBackFrame
  cases backFrameOf frame with
  | badCrc => exact h.of_same
  | unknown => exact h
  | ident id c => exact takeIdent_steady h id c
  | status k => exact takeStatus_steady h k
  | card c => exact takeCard_steady h c
  | test => exact h

theorem connectorSampled_steady {u s : State} (h : u.Steady s) (p : PilotClass) (x : Proximity) (e : Earth) :
    u.Steady (connectorSampled p x e s) := by
  have haborts : u.Steady (sampleAbortsTest s.vehicle (s.setVehicle (s.vehicle.sampled p x e))) := by
    unfold sampleAbortsTest
    split
    · exact abortLoopTest_steady h.of_same
    · exact h.of_same
  generalize hy : sampleAbortsTest _ _ = y at haborts
  have hunplugs : u.Steady (sampleUnplugs s.vehicle y) := by
    unfold sampleUnplugs
    split
    · exact confirmNone_steady haborts
    · exact haborts
  generalize hz : sampleUnplugs _ _ = z at hunplugs
  have hfaults : u.Steady (evaluateFaults z) := by
    unfold evaluateFaults
    split
    · cases connectorFault z.vehicle with
      | none => exact hunplugs
      | some r => exact halt_steady hunplugs r
    · exact hunplugs
  unfold connectorSampled sampleRecompute
  simp only [hy, hz]
  split
  · exact recomputeIfLinked_steady (checkLinkUp_steady hfaults)
  · exact checkLinkUp_steady hfaults

theorem helloReplyExpired_steady {u s : State} (h : u.Steady s) : u.Steady (helloReplyExpired s) := by
  unfold helloReplyExpired helloUnanswered
  repeat' split
  · exact h.of_same
  · exact halt_steady h _
  · exact h
  · exact h

/-! ## The power stage -/

theorem stageFault_steady {u s : State} (h : u.Steady s) (r : HaltReason) : u.Steady (stageFault r s) := by
  unfold stageFault
  split
  · exact halt_steady h r
  · exact h

theorem evaluateSilence_steady {u s : State} (h : u.Steady s) : u.Steady (evaluateSilence s) := by
  unfold evaluateSilence
  split
  · exact stageFault_steady h.of_same _
  · exact h

theorem evaluateConverter_steady {u s : State} (h : u.Steady s) : u.Steady (evaluateConverter s) := by
  unfold evaluateConverter
  split
  · exact stageFault_steady h _
  · exact h

theorem rederate_steady {u s : State} (h : u.Steady s) (w : WorkingCopy) : u.Steady (rederate w s) := by
  unfold rederate
  split
  · exact h.of_same
  · exact recomputeIfLinked_steady h.of_same

theorem acceptReport_steady {u s : State} (h : u.Steady s) (w : WorkingCopy) (r : WireReport) (state : Converter) :
    u.Steady (acceptReport w r state s) :=
  handOver_steady (evaluateConverter_steady ((rederate_steady (h.setComposer _) w).setComposer _)) _

theorem requestShed_steady {u s : State} (h : u.Steady s) (fraction : Nat) : u.Steady (requestShed fraction s) := by
  unfold requestShed
  repeat' split
  · exact h.setLink (le_refl _)
  · exact h.setLink (le_refl _)
  · exact h

theorem detectOverload_steady {u s : State} (h : u.Steady s) (w : WorkingCopy) (m : Int) :
    u.Steady (detectOverload w m s) := by
  have hcount : u.Steady (s.setShare (countSample w m s.share)) := h.setShare (by
    unfold countSample
    repeat' split
    all_goals exact Nat.le_refl _)
  unfold detectOverload shedSample
  repeat' split
  · exact hcount.setShare (Nat.le_refl _)
  · exact hcount
  · exact requestShed_steady (hcount.setShare (by exact Nat.le_refl _)) _
  · exact hcount

theorem receiveReport_steady {u s : State} (h : u.Steady s) (r : WireReport) : u.Steady (receiveReport r s) := by
  unfold receiveReport acceptByRole acceptSample
  repeat' split
  · exact acceptReport_steady h _ r _
  · exact detectOverload_steady h.of_same _ _
  · exact h.of_same
  · exact h
  · exact h.of_same
  · exact h

theorem controlPeriodTaken_steady {u s : State} (h : u.Steady s) : u.Steady (controlPeriodTaken s) := by
  unfold controlPeriodTaken
  repeat' split
  next w _ _ =>
    have hsilence : u.Steady (periodSilence s) := evaluateSilence_steady h.of_same
    have hidle : u.Steady (periodIdle w (periodWake (periodTarget (periodRamp w (periodClamps (periodSilence s)))))) :=
      hsilence.of_same
    have hmode : u.Steady (periodMode w (periodTarget (periodRamp w (periodClamps (periodSilence s))))) :=
      (evaluateConverter_steady hidle).setComposer _
    unfold controlPeriod
    exact hmode.of_same
  · exact h
  · exact h

theorem stageSilent_steady {u s : State} (h : u.Steady s) : u.Steady (if s.composes then evaluateSilence s else s) := by
  split
  · exact evaluateSilence_steady h
  · exact h

theorem wakeExpired_steady {u s : State} (h : u.Steady s) : u.Steady (wakeExpired s) := by
  unfold wakeExpired
  split
  · exact stageFault_steady h.of_same _
  · exact h

/-! ## Station states and ALONE -/

theorem enterAlone_steady {u s : State} (h : u.Steady s) : u.Steady (enterAlone s) := by
  unfold enterAlone
  repeat' split
  · exact raise_steady (((h.setPeers _).setShare (Nat.min_le_left _ _)).setReserve _) _
  · exact raise_steady (h.setPeers _) _
  · exact h

theorem decideAlone_steady {u s : State} (h : u.Steady s) : u.Steady (decideAlone s) := by
  unfold decideAlone
  split
  · exact enterAlone_steady h
  · exact h

theorem leaveRunning_steady {u s : State} (h : u.Steady s) : u.Steady (leaveRunning s) :=
  ((h.setPeers _).setShare (Nat.zero_le _)).setReserve _

theorem enterListening_steady {u s : State} (h : u.Steady s) (w : WorkingCopy) : u.Steady (enterListening w s) := by
  have hleave : u.Steady (leaveRunning (s.setLink (s.link.listen w))) := leaveRunning_steady (h.setLink (le_refl _))
  unfold enterListening listenStage
  split
  · exact checkLinkUp_steady (rederate_steady hleave.of_same w)
  · exact checkLinkUp_steady hleave.of_same

theorem stopDriving_counters (k : Link) : k.stopDriving.counters = k.counters := by
  unfold Link.stopDriving
  split <;> rfl

theorem loadAnnounceTimer_counters (w : WorkingCopy) (k : Link) : (k.loadAnnounceTimer w).counters = k.counters := by
  unfold Link.loadAnnounceTimer
  split <;> rfl

theorem enterClash_steady {u s : State} (h : u.Steady s) : u.Steady (enterClash s) :=
  raise_steady (leaveRunning_steady (h.setLink (by exact (stopDriving_counters s.link).ge))) _

theorem listenExpired_steady {u s : State} (h : u.Steady s) : u.Steady (listenExpired s) := by
  unfold listenExpired
  repeat' split
  · exact decideAlone_steady ((h.setLink (by rw [loadAnnounceTimer_counters]; exact le_refl _)).setShare (by exact Nat.le_refl _))
  · exact h
  · exact h

/-! ## The depot link -/

theorem elapse_steady {u s : State} (h : u.Steady s) (n : Nat) : u.Steady (s.elapse n) :=
  h.of_same (by rfl) (by rfl) (by rfl)

theorem startReady_counters (station : Nat) (receiver : Receiver) (k : Link) :
    (k.startReady station receiver).counters = k.counters := by
  unfold Link.startReady Link.startShed Link.startAnnounce
  repeat' split
  all_goals rfl

theorem transmissionStarted_steady {u s : State} (h : u.Steady s) (micros : Nat) :
    u.Steady (transmissionStarted micros s) := by
  have hsense : u.Steady (senseIdle micros s) := by
    unfold senseIdle
    split
    · exact elapse_steady h _
    · exact h.setLink (le_refl _)
  unfold transmissionStarted
  repeat' split
  · exact hsense.setLink (startReady_counters _ _ _).ge
  · exact hsense
  · exact h

theorem countGood_steady {u s : State} (h : u.Steady s) : u.Steady (countGood s) :=
  h.setLink ⟨le_bump _ _, le_refl _⟩

theorem routeAnnounce_steady {u s : State} (h : u.Steady s) (f : WireAnnounce) : u.Steady (routeAnnounce f s) := by
  unfold routeAnnounce
  repeat' split
  · exact h
  · exact h
  · exact enterClash_steady h
  · exact h.of_same
  · exact enterClash_steady h
  · exact h.of_same
  · exact h
  · exact h.of_same

theorem handShed_steady {u s : State} (h : u.Steady s) (f : WireShed) : u.Steady (handShed f s) := by
  unfold handShed takeShed
  repeat' split
  · exact raise_steady h _
  · refine raise_steady (((h.setShare ?_).setComposer _).setReserve _) _
    rw [shedShare, startShedHold, setAllowance_allowance]
    exact shedCut_le _ _
  · exact raise_steady ((h.setShare (by exact Nat.le_refl _)).setReserve _) _
  · exact h

theorem routeShed_steady {u s : State} (h : u.Steady s) (f : WireShed) : u.Steady (routeShed f s) := by
  unfold routeShed
  repeat' split
  · exact h
  · exact h
  · exact enterClash_steady h
  · exact handShed_steady h f
  · exact enterClash_steady h
  · exact handShed_steady h f
  · exact h

theorem decideReception_steady {u s : State} (h : u.Steady s) (r : Reception) : u.Steady (decideReception r s) := by
  cases r with
  | crcError => exact h.setLink ⟨le_refl _, le_bump _ _, le_refl _⟩
  | malformed => exact h.setLink ⟨le_refl _, le_refl _, le_bump _ _, le_refl _⟩
  | announce f => exact routeAnnounce_steady (countGood_steady h) f
  | shed f => exact routeShed_steady (countGood_steady h) f

theorem afterReception_counters (k : Link) : k.afterReception.counters = k.counters := by
  unfold Link.afterReception
  repeat' split
  all_goals rfl

theorem receive_steady {u s : State} (h : u.Steady s) (fresh : Bool) (characters : Nat) (r : Reception) :
    u.Steady (receive fresh characters r s) := by
  have hends : u.Steady (receptionEnds fresh characters s) :=
    (elapse_steady h _).setLink (afterReception_counters _).ge
  unfold receive
  split
  · exact decideReception_steady hends r
  · exact hends

theorem entryExpired_steady {u s : State} (h : u.Steady s) (station : Nat) : u.Steady (entryExpired station s) := by
  unfold entryExpired
  split
  · exact decideAlone_steady h.of_same
  · exact h

/-! ## The mains sense and the reserve unit -/

theorem takeImplausible_steady {u s : State} (h : u.Steady s) : u.Steady (takeImplausible s) := by
  unfold takeImplausible
  split
  · exact raise_steady h.of_same _
  · exact h.of_same

theorem judgeMeasurement_steady {u s : State} (h : u.Steady s) (w : WorkingCopy) (f : Option Nat) :
    u.Steady (judgeMeasurement w f s) := by
  unfold judgeMeasurement judgedPlausible judgedImplausible
  split
  · split
    · exact h.setReserve _
    · exact (h.setReserve _).setReserve _
    · exact (h.setReserve _).setReserve _
    · exact (h.setReserve _).setReserve _
  split
  · exact h.setReserve _
  · exact takeImplausible_steady (h.setReserve _)
  · exact takeImplausible_steady (h.setReserve _)
  · exact (h.setReserve _).setReserve _

theorem mainsEdgeTaken_steady {u s : State} (h : u.Steady s) : u.Steady (mainsEdgeTaken s) := by
  unfold mainsEdgeTaken countEdge
  repeat' split
  · exact h.of_same
  · exact judgeMeasurement_steady h.of_same _ _
  · exact h.of_same
  · exact h
  · exact h

theorem edgeTimedOut_steady {u s : State} (h : u.Steady s) : u.Steady (edgeTimedOut s) := by
  unfold edgeTimedOut
  repeat' split
  · exact judgeMeasurement_steady h.of_same _ _
  · exact h
  · exact h

theorem allocateReserve_steady {u s : State} (h : u.Steady s) : u.Steady (allocateReserve s) := by
  unfold allocateReserve
  repeat' split
  · exact raise_steady h.of_same _
  · exact h.of_same
  · exact h.of_same
  · exact h

/-! ## Loads, the write-back and requests -/

theorem endLoad_steady {u s : State} (h : u.Steady s) : u.Steady (endLoad s) := by
  unfold endLoad
  cases structuralError s.store.shadow with
  | some e => exact raise_steady (leaveRunning_steady ((h.setStore _).setLink (by exact le_refl _))) _
  | none =>
    refine enterListening_steady ?_ _
    unfold raiseClamped
    split
    · exact raise_steady (h.setStore _) _
    · exact h.setStore _

theorem loadCompleted_steady {u s : State} (h : u.Steady s) : u.Steady (loadCompleted s) := by
  unfold loadCompleted
  split
  · exact endLoad_steady (h.setStore _)
  · exact h

theorem failWriteback_steady {u s : State} (h : u.Steady s) : u.Steady (failWriteback s) :=
  raise_steady (h.setStore _) _

theorem memoryTimedOut_steady {u s : State} (h : u.Steady s) (answered : Nat) :
    u.Steady (memoryTimedOut answered s) := by
  unfold memoryTimedOut
  repeat' split
  · exact raise_steady (leaveRunning_steady (((h.setStore _).setStore _).setLink (by exact le_refl _))) _
  · exact failWriteback_steady h.of_same
  · exact h

theorem pageReadBack_steady {u s : State} (h : u.Steady s) (bytes : List Byte) : u.Steady (pageReadBack bytes s) := by
  have hwritten : u.Steady (pageWritten bytes s) := h.setStore _
  unfold pageReadBack pageMatched
  repeat' split
  · exact raise_steady (hwritten.setStore _) _
  · exact hwritten.setStore _
  · exact failWriteback_steady hwritten
  · exact h

theorem respond_steady {u s : State} (h : u.Steady s) (n : Nat) (status : Status) (data : List Byte) :
    u.Steady (respond n status data s) := h.of_same

/-- Of the requests only a restart and an ATTN_READ are not steady. -/
theorem takeRequest_steady {u s : State} (h : u.Steady s) {r : Request} (hrestart : r ≠ .restart)
    (hread : r ≠ .attnRead) : u.Steady (takeRequest r s) := by
  cases r with
  | readItem item index =>
    show u.Steady (takeReadItem item index s)
    unfold takeReadItem
    split <;> exact respond_steady h _ _ _
  | writeShadow offset data =>
    show u.Steady (takeWriteShadow offset data s)
    unfold takeWriteShadow
    split
    · exact respond_steady (h.setStore _) _ _ _
    · exact respond_steady h _ _ _
  | writeback =>
    show u.Steady (takeWriteback s)
    unfold takeWriteback
    split
    · exact respond_steady (h.setStore _) _ _ _
    · exact respond_steady h _ _ _
  | restart => exact absurd rfl hrestart
  | looptestStart =>
    show u.Steady (takeLooptestStart s)
    unfold takeLooptestStart
    split
    · exact respond_steady (h.setVehicle _) _ _ _
    · exact respond_steady h _ _ _
  | looptestStop =>
    show u.Steady (takeLooptestStop s)
    unfold takeLooptestStop
    split
    · exact respond_steady (abortLoopTest_steady h) _ _ _
    · exact respond_steady h _ _ _
  | attnRead => exact absurd rfl hread
  | attnRearm => exact ⟨h.allowance, h.causes, h.counters⟩

/-- No request raises the allowance, and none lowers a counter. -/
theorem takeRequest_keeps (r : Request) (s : State) :
    (takeRequest r s).share.allowance ≤ s.share.allowance ∧ s.link.counters ≤ (takeRequest r s).link.counters := by
  by_cases hrestart : r = .restart
  · subst hrestart
    show (takeRestart s).share.allowance ≤ _ ∧ _ ≤ (takeRestart s).link.counters
    unfold takeRestart
    split
    · exact ⟨le_refl _, le_refl _⟩
    · have hend : s.released.Steady (endLoad s.released) := endLoad_steady (.refl _)
      exact ⟨Nat.le_trans hend.allowance (Nat.zero_le _), (stopDriving_counters s.link).ge.trans hend.counters⟩
  by_cases hread : r = .attnRead
  · subst hread
    exact ⟨le_refl _, le_refl _⟩
  · have hsteady := takeRequest_steady (.refl s) hrestart hread
    exact ⟨hsteady.allowance, hsteady.counters⟩

/-! ## The end of an own ANNOUNCE -/

/-- An own ANNOUNCE that leaves the hand clears no cause and lowers no counter; A is that of its allocation. -/
theorem announceLeaves_keeps {u s : State} (h : u.Steady s) (w : WorkingCopy) :
    (∃ set, (announceLeaves w s).service.pendingCauses = u.service.pendingCauses ||| set)
      ∧ u.link.counters ≤ (announceLeaves w s).link.counters := by
  have hallocated := allocateReserve_steady (h.setLink (k := Link.loadAnnounceTimer w { s.link with announceHand := none })
    (by rw [loadAnnounceTimer_counters]; exact le_refl _))
  unfold announceLeaves allocationEvent
  simp only [allocateShare_frame]
  exact ⟨hallocated.causes, hallocated.counters⟩

/-- A transmission that ends: no cause cleared, no counter lowered, and A higher only at the end of an own ANNOUNCE. -/
theorem completed_keeps (s : State) :
    (∃ set, (completed s).service.pendingCauses = s.service.pendingCauses ||| set)
      ∧ s.link.counters ≤ (completed s).link.counters
      ∧ (s.share.allowance < (completed s).share.allowance → s.link.transmitting = some .announce) := by
  have hstop : s.Steady (s.setLink s.link.stopDriving) := (State.Steady.refl s).setLink (stopDriving_counters _).ge
  unfold completed
  split
  next w hframe _ =>
    obtain ⟨hcauses, hcounters⟩ := announceLeaves_keeps hstop w
    exact ⟨hcauses, hcounters, fun _ => hframe⟩
  · exact ⟨hstop.causes, hstop.counters, fun hrise => absurd hrise (Nat.lt_irrefl _)⟩
  · obtain ⟨-, hcauses, hcounters⟩ := State.Steady.refl s
    exact ⟨hcauses, hcounters, fun hrise => absurd hrise (Nat.lt_irrefl _)⟩

theorem abandon_counters (k : Link) : k.counters ≤ k.abandon.counters := by
  have hcounted : k.stopDriving.counters ≤ { k.stopDriving with collisions := bump 65535 k.collisions }.counters := by
    rw [stopDriving_counters, Link.counters, Link.counters]
    have hstop := stopDriving_counters k
    simp only [Link.counters, Prod.mk.injEq] at hstop
    simp [hstop, le_bump]
  exact (stopDriving_counters k).ge.trans hcounted

theorem collidedShed_counters (attempts : Nat) (k : Link) : k.counters ≤ (k.collidedShed attempts).counters := by
  unfold Link.collidedShed
  repeat' split
  · exact le_refl _
  · exact le_refl _
  · exact ⟨le_refl _, le_refl _, le_refl _, le_refl _, le_bump _ _⟩

/-- A collision: no cause cleared, no counter lowered, and A higher only where it drops an own ANNOUNCE. -/
theorem collided_keeps (s : State) :
    (∃ set, (collided s).service.pendingCauses = s.service.pendingCauses ||| set)
      ∧ s.link.counters ≤ (collided s).link.counters
      ∧ (s.share.allowance < (collided s).share.allowance →
          s.link.transmitting = some .announce ∧ ∃ h, s.link.announceHand = some h ∧ 4 ≤ h.attempts) := by
  have habandon : s.Steady (s.setLink s.link.abandon) := (State.Steady.refl s).setLink (abandon_counters _)
  unfold collided
  split
  next w hframe _ =>
    unfold collidedAnnounce
    split
    · exact ⟨habandon.causes, habandon.counters, fun hrise => absurd hrise (Nat.lt_irrefl _)⟩
    next hlast =>
      have hdropped := habandon.setLink (k := { s.link.abandon with dropped := bump 65535 s.link.abandon.dropped })
        ⟨le_refl _, le_refl _, le_refl _, le_refl _, le_bump _ _⟩
      obtain ⟨hcauses, hcounters⟩ := announceLeaves_keeps hdropped w
      refine ⟨hcauses, hcounters, fun _ => ⟨hframe, ?_⟩⟩
      cases hhand : s.link.announceHand with
      | none => simp [hhand] at hlast
      | some h => exact ⟨h, rfl, by simpa [hhand] using hlast⟩
  · have hshed := habandon.setLink (collidedShed_counters (s.link.shedHand.elim 0 ShedInHand.attempts) s.link.abandon)
    exact ⟨hshed.causes, hshed.counters, fun hrise => absurd hrise (Nat.lt_irrefl _)⟩
  · obtain ⟨-, hcauses, hcounters⟩ := State.Steady.refl s
    exact ⟨hcauses, hcounters, fun hrise => absurd hrise (Nat.lt_irrefl _)⟩

/-! ## Every command -/

/-- The commands that may clear a cause, lower a counter or raise A. -/
def Instr.isReleasing : Instr → Bool
  | .startReset | .restart | .attnRead | .transmissionComplete | .collision | .serviceRequestInvalid _ => true
  | _ => false

/-- Every other command is steady. -/
theorem exec_steady {c : Instr} (hc : Instr.isReleasing c = false) (s : State) :
    ∃ t, exec c s = .next t ∧ s.Steady t := by
  have h := State.Steady.refl s
  cases c with
  | startReset | restart | attnRead | transmissionComplete | collision | serviceRequestInvalid => cases hc
  | loadComplete => exact ⟨_, rfl, loadCompleted_steady h⟩
  | configMemoryTimeout n => exact ⟨_, rfl, memoryTimedOut_steady h n⟩
  | connectorSample => exact ⟨_, rfl, connectorSampled_steady h _ _ _⟩
  | helloReplyTimerExpiry => exact ⟨_, rfl, helloReplyExpired_steady h⟩
  | forwardFrameSend => exact ⟨_, rfl, h.of_same⟩
  | identReceived => exact ⟨_, rfl, receiveBack_steady h _ (takeIdent_steady h _ _)⟩
  | statusReceived => exact ⟨_, rfl, receiveBack_steady h _ (takeStatus_steady h _)⟩
  | cardReceived => exact ⟨_, rfl, receiveBack_steady h _ (takeCard_steady h _)⟩
  | vehicleFrameDiscarded => exact ⟨_, rfl, receiveBack_steady h _ (takeBackFrame_steady h _)⟩
  | testFrameReturn => exact ⟨_, rfl, receiveBack_steady h _ (takeBackFrame_steady h _)⟩
  | vehicleWatchdogExpiry =>
    refine ⟨_, rfl, ?_⟩
    unfold watchdogExpired
    split
    · exact halt_steady h _
    · exact h
  | minuteTimerExpiry =>
    refine ⟨_, rfl, ?_⟩
    unfold minuteExpired
    split
    · exact recompute_steady (h.setTracker _) _
    · exact h
  | returnWindowExpiry =>
    refine ⟨_, rfl, ?_⟩
    unfold returnWindowExpired
    split
    · exact decideTestFrame_steady h _
    · exact h
  | looptestStart | looptestStop | readItem | writeShadow | writeback | attnRearm =>
    exact ⟨_, rfl, takeRequest_steady h nofun nofun⟩
  | reportReceived r => exact ⟨_, rfl, receiveReport_steady h r⟩
  | feederSample r => exact ⟨_, rfl, receiveReport_steady h r⟩
  | stageFrameDiscarded frame =>
    refine ⟨_, rfl, ?_⟩
    cases reportOf frame with
    | none => exact h
    | some r => exact receiveReport_steady h r
  | controlPeriod => exact ⟨_, rfl, controlPeriodTaken_steady h⟩
  | stageSilent => exact ⟨_, rfl, stageSilent_steady h⟩
  | idleTimerExpiry => exact ⟨_, rfl, h.of_same⟩
  | wakeTimerExpiry => exact ⟨_, rfl, wakeExpired_steady h⟩
  | lendableUpdate => exact ⟨_, rfl, updateLending_steady h⟩
  | offerCompute => exact ⟨_, rfl, h.setReserve _⟩
  | listenTimerExpiry => exact ⟨_, rfl, listenExpired_steady h⟩
  | announceTimerExpiry =>
    refine ⟨_, rfl, ?_⟩
    unfold announceExpired
    repeat' split
    · exact h.setLink (by exact le_refl _)
    · exact h
    · exact h
  | transmissionStart micros => exact ⟨_, rfl, transmissionStarted_steady h micros⟩
  | receptionEnd characters => exact ⟨_, rfl, receive_steady (h.setLink (by exact le_refl _)) _ _ _⟩
  | announceReceived => exact ⟨_, rfl, receive_steady h _ _ _⟩
  | shedReceived => exact ⟨_, rfl, receive_steady h _ _ _⟩
  | peerEntryExpiry station => exact ⟨_, rfl, entryExpired_steady h station⟩
  | shedHoldExpiry =>
    refine ⟨_, rfl, ?_⟩
    unfold shedHoldExpired
    split
    · exact h.setShare (by exact Nat.le_refl _)
    · exact h
  | mainsEdge => exact ⟨_, rfl, mainsEdgeTaken_steady (elapse_steady h _)⟩
  | edgeTimeout => exact ⟨_, rfl, edgeTimedOut_steady h⟩
  | writebackPageDone page => exact ⟨_, rfl, pageReadBack_steady h _⟩
  | readTransfer => exact ⟨_, rfl, h.allowance, h.causes, h.counters⟩

/-! ## The store (9.1, 9.5) -/

/-- The commands that may change the store. -/
def Instr.isStoring : Instr → Bool
  | .startReset | .loadComplete | .configMemoryTimeout _ | .writeShadow _ _ | .writeback | .writebackPageDone _
    | .restart | .serviceRequestInvalid _ => true
  | _ => false

/-- Every other command leaves the store as it is. -/
theorem exec_store {c : Instr} (hc : Instr.isStoring c = false) (s : State) :
    ∃ t, exec c s = .next t ∧ t.store = s.store := by
  cases c <;> refine ⟨_, rfl, ?_⟩
  case startReset | loadComplete | configMemoryTimeout | writeShadow | writeback | writebackPageDone | restart
      | serviceRequestInvalid => cases hc
  case stageFrameDiscarded frame => cases reportOf frame <;> simp
  case stageSilent => split <;> simp
  case helloReplyTimerExpiry | vehicleWatchdogExpiry | minuteTimerExpiry | returnWindowExpiry | wakeTimerExpiry
      | listenTimerExpiry | announceTimerExpiry | peerEntryExpiry | shedHoldExpiry | edgeTimeout =>
    simp only [helloReplyExpired, watchdogExpired, minuteExpired, returnWindowExpired, wakeExpired, listenExpired,
      announceExpired, entryExpired, shedHoldExpired, edgeTimedOut]
    repeat' split
    all_goals simp
  case identReceived | statusReceived | cardReceived | vehicleFrameDiscarded | testFrameReturn =>
    unfold receiveBack
    split <;> simp
  all_goals simp [takeRequest]

theorem endLoad_memory (s : State) : (endLoad s).store.memory = s.store.memory := by
  unfold endLoad
  cases structuralError s.store.shadow with
  | some e => simp [endWithError_effect]
  | none => simp [endWithCopy, Store.configure]

theorem takeRequest_memory (r : Request) (s : State) : (takeRequest r s).store.memory = s.store.memory := by
  cases r <;> simp only [takeRequest, takeReadItem, takeWriteShadow, takeWriteback, takeRestart, takeLooptestStart,
    takeLooptestStop, takeAttnRead, takeAttnRearm, serviceRestart, startWriteback] <;> repeat' split
  all_goals simp [endLoad_memory, resealShadow, Store.resealed]

/-- Of the requests only a restart changes the working copy. -/
theorem takeRequest_working {r : Request} (hr : r ≠ .restart) (s : State) :
    (takeRequest r s).store.working = s.store.working := by
  cases r <;> simp only [takeRequest, takeReadItem, takeWriteShadow, takeWriteback, takeLooptestStart,
    takeLooptestStop, takeAttnRead, takeAttnRearm, startWriteback] <;> repeat' split
  all_goals simp at hr ⊢

/-- Of the commands that may change the store, a start reset, a load, its failure and a restart change the working
copy. -/
theorem exec_working {c : Instr} {s t : State} (h : exec c s = .next t) (hworking : t.store.working ≠ s.store.working) :
    c = .startReset ∨ c = .loadComplete ∨ (∃ n, c = .configMemoryTimeout n) ∨ c = .restart
      ∨ ∃ frame, c = .serviceRequestInvalid frame ∧ requestOf frame = some .restart := by
  by_cases hc : Instr.isStoring c = false
  · obtain ⟨t', ht, hstore⟩ := exec_store hc s
    obtain rfl := Host.Outcome.next.inj (ht.symm.trans h)
    exact absurd (congrArg Store.working hstore) hworking
  cases c with
  | startReset | loadComplete | configMemoryTimeout | restart => simp
  | writeShadow offset data =>
    obtain rfl := Host.Outcome.next.inj h
    exact absurd (takeRequest_working (r := .writeShadow offset data) nofun s) hworking
  | writeback =>
    obtain rfl := Host.Outcome.next.inj h
    exact absurd (takeRequest_working (r := .writeback) nofun s) hworking
  | writebackPageDone page =>
    obtain rfl := Host.Outcome.next.inj h
    refine absurd ?_ hworking
    unfold pageReadBack pageMatched
    repeat' split
    all_goals simp [finishWriteback, failWriteback, pageWritten]
  | serviceRequestInvalid frame =>
    obtain rfl := Host.Outcome.next.inj h
    cases hr : requestOf frame with
    | none => simp [requestTransferred, hr] at hworking
    | some r =>
      by_cases hrestart : r = .restart
      · simp [hr, hrestart]
      · simp [requestTransferred, hr, takeRequest_working hrestart] at hworking
  | _ => exact absurd rfl hc

/-- The memory changes only under a write-back: by a page read back, by one that is not answered, or where a start reset
stops it. -/
theorem exec_memory {c : Instr} {s t : State} (h : exec c s = .next t) (hmemory : t.store.memory ≠ s.store.memory) :
    s.store.writebackRunning = true
      ∧ (c = .startReset ∨ (∃ n, c = .configMemoryTimeout n) ∨ ∃ page, c = .writebackPageDone page) := by
  by_cases hc : Instr.isStoring c = false
  · obtain ⟨t', ht, hstore⟩ := exec_store hc s
    obtain rfl := Host.Outcome.next.inj (ht.symm.trans h)
    exact absurd (congrArg Store.memory hstore) hmemory
  cases c with
  | startReset =>
    obtain rfl := Host.Outcome.next.inj h
    refine ⟨of_not_not fun hidle => hmemory ?_, .inl rfl⟩
    simp [startReset, cutWriteback, hidle, Store.reset]
  | configMemoryTimeout n =>
    obtain rfl := Host.Outcome.next.inj h
    refine ⟨of_not_not fun hidle => hmemory ?_, .inr (.inl ⟨n, rfl⟩)⟩
    simp only [memoryTimedOut, hidle]
    split
    · simp [endWithError_effect]
    · rfl
  | writebackPageDone page =>
    obtain rfl := Host.Outcome.next.inj h
    refine ⟨of_not_not fun hidle => hmemory ?_, .inr (.inr ⟨page, rfl⟩)⟩
    simp [pageReadBack, hidle]
  | loadComplete =>
    obtain rfl := Host.Outcome.next.inj h
    refine absurd ?_ hmemory
    unfold loadCompleted
    split
    · simp [endLoad_memory]
    · rfl
  | writeShadow | writeback | restart =>
    obtain rfl := Host.Outcome.next.inj h
    exact absurd (takeRequest_memory _ s) hmemory
  | serviceRequestInvalid frame =>
    obtain rfl := Host.Outcome.next.inj h
    cases hr : requestOf frame with
    | none => simp [requestTransferred, hr] at hmemory
    | some r => simp [requestTransferred, hr, takeRequest_memory] at hmemory
  | _ => exact absurd rfl hc

/-! ## The promises -/

theorem requestTransferred_keeps (frame : List Byte) (s : State) :
    (requestTransferred frame s).share.allowance ≤ s.share.allowance
      ∧ s.link.counters ≤ (requestTransferred frame s).link.counters := by
  unfold requestTransferred
  cases requestOf frame with
  | none => exact ⟨le_refl _, le_refl _⟩
  | some r => exact takeRequest_keeps r s

/-- A rises only where an own ANNOUNCE ends. -/
theorem exec_allowance {c : Instr} {s t : State} (h : exec c s = .next t)
    (hrise : s.share.allowance < t.share.allowance) :
    s.link.transmitting = some .announce
      ∧ (c = .transmissionComplete ∨ (c = .collision ∧ ∃ h, s.link.announceHand = some h ∧ 4 ≤ h.attempts)) := by
  by_cases hc : Instr.isReleasing c = false
  · obtain ⟨t', ht, hsteady⟩ := exec_steady hc s
    obtain rfl := Host.Outcome.next.inj (ht.symm.trans h)
    exact absurd hrise (Nat.not_lt.mpr hsteady.allowance)
  cases c with
  | transmissionComplete =>
    obtain rfl := Host.Outcome.next.inj h
    exact ⟨(completed_keeps s).2.2 hrise, .inl rfl⟩
  | collision =>
    obtain rfl := Host.Outcome.next.inj h
    obtain ⟨hframe, hdropped⟩ := (collided_keeps s).2.2 hrise
    exact ⟨hframe, .inr ⟨rfl, hdropped⟩⟩
  | startReset =>
    obtain rfl := Host.Outcome.next.inj h
    exact absurd hrise (Nat.not_lt_zero _)
  | restart | attnRead =>
    obtain rfl := Host.Outcome.next.inj h
    exact absurd hrise (Nat.not_lt.mpr (takeRequest_keeps _ s).1)
  | serviceRequestInvalid frame =>
    obtain rfl := Host.Outcome.next.inj h
    exact absurd hrise (Nat.not_lt.mpr (requestTransferred_keeps frame s).1)
  | _ => exact absurd rfl hc

/-- A set that has lost no cause clears none. -/
theorem and_not_eq_zero {a b : BitVec 12} (h : ∃ set, b = a ||| set) : a &&& ~~~b = 0 := by
  obtain ⟨set, rfl⟩ := h
  ext i hi
  simp +contextual

/-- A pending cause is cleared only by an ATTN_READ, a restart or a start reset. -/
theorem exec_causes {c : Instr} {s t : State} (h : exec c s = .next t)
    (hcleared : s.service.pendingCauses &&& ~~~t.service.pendingCauses ≠ 0) :
    c = .attnRead ∨ c = .restart ∨ c = .startReset
      ∨ ∃ frame, c = .serviceRequestInvalid frame
          ∧ (requestOf frame = some .attnRead ∨ requestOf frame = some .restart) := by
  by_cases hc : Instr.isReleasing c = false
  · obtain ⟨t', ht, hsteady⟩ := exec_steady hc s
    obtain rfl := Host.Outcome.next.inj (ht.symm.trans h)
    exact absurd (and_not_eq_zero hsteady.causes) hcleared
  cases c with
  | attnRead | restart | startReset => simp
  | transmissionComplete =>
    obtain rfl := Host.Outcome.next.inj h
    exact absurd (and_not_eq_zero (completed_keeps s).1) hcleared
  | collision =>
    obtain rfl := Host.Outcome.next.inj h
    exact absurd (and_not_eq_zero (collided_keeps s).1) hcleared
  | serviceRequestInvalid frame =>
    obtain rfl := Host.Outcome.next.inj h
    cases hr : requestOf frame with
    | none =>
      have hsteady := respond_steady (.refl s) frame.length .refused []
      refine absurd (and_not_eq_zero ?_) hcleared
      simpa [requestTransferred, hr] using hsteady.causes
    | some r =>
      by_cases hread : r = .attnRead
      · simp [hr, hread]
      by_cases hrestart : r = .restart
      · simp [hr, hrestart]
      have hsteady := takeRequest_steady (.refl s) hrestart hread
      refine absurd (and_not_eq_zero ?_) hcleared
      simpa [requestTransferred, hr] using hsteady.causes
  | _ => exact absurd rfl hc

/-- The counters fall only at a start reset. -/
theorem exec_counters {c : Instr} {s t : State} (h : exec c s = .next t) (hc : c ≠ .startReset) :
    s.link.counters ≤ t.link.counters := by
  by_cases hsteady : Instr.isReleasing c = false
  · obtain ⟨t', ht, hsteady⟩ := exec_steady hsteady s
    obtain rfl := Host.Outcome.next.inj (ht.symm.trans h)
    exact hsteady.counters
  cases c with
  | startReset => exact absurd rfl hc
  | transmissionComplete =>
    obtain rfl := Host.Outcome.next.inj h
    exact (completed_keeps s).2.1
  | collision =>
    obtain rfl := Host.Outcome.next.inj h
    exact (collided_keeps s).2.1
  | restart | attnRead =>
    obtain rfl := Host.Outcome.next.inj h
    exact (takeRequest_keeps _ s).2
  | serviceRequestInvalid frame =>
    obtain rfl := Host.Outcome.next.inj h
    exact (requestTransferred_keeps frame s).2
  | _ => exact absurd rfl hsteady

/-- Settles O60: each promise is a lemma about every command. -/
theorem onlyTheNamedEventsChangeThese : Obligations.OnlyTheNamedEventsChangeThese := by
  intro c s t h
  refine ⟨exec_allowance h, exec_causes h, exec_working h, exec_memory h, fun hfallen => of_not_not fun hc => ?_⟩
  obtain ⟨hgood, hcrc, hmalformed, hcollisions, hdropped⟩ := exec_counters h hc
  simp only [Link.counters] at hgood hcrc hmalformed hcollisions hdropped
  omega

end Sys2Proof.Machine
